-- ==== Sys2Proof/Word.lean ====
section
/-! DEFINITION. The word types of the NQ128 (R4, R21, R125). -/

namespace Sys2Proof

/-- A 32-bit register, address or instruction word (R4, R125, R127). -/
abbrev Word := BitVec 32

/-- One byte of memory or of an image (R21, R262). -/
abbrev Byte := BitVec 8

/-- A 64-bit Lace entry or one 64-bit word of a frame (R169, R275). -/
abbrev DWord := BitVec 64

/-- A configuration frame of 256 bytes; frame byte `j` holds bits `[8j + 7 : 8j]` (R276). -/
abbrev Frame := BitVec 2048

/-- A tile mask: bit `t` stands for tile `t` (R265, R269). -/
abbrev TileMask := BitVec 128

end Sys2Proof
end

