-- ==== Sys2Proof/Syntax.lean ====
section
/-! DEFINITION. The commands of the NQ128 block: one constructor per row of spec/opcode_table.json.
The table gives no row an operand, so the operands are the model's own choice (log entry 4): what a
command carries is exactly what comes from outside the State (`lines`, the levels of CF_D7–0 in each CF_SCK
cycle in which the flash gives a record (R257, log entry 95), a level on a ball, a reading in mV, the value a
register write carries, the outcome of a race that the spec leaves to an arbiter) or the unit that the step
concerns. -/

namespace Sys2Proof

/-- A tile, and with it the Cobbler, bank and local memory of that tile (R17). -/
abbrev TileId := Fin 128

/-- A core: Cobbler `e` is `e`, Quince is 128, the numbers of CORE_ID (R149). -/
abbrev CoreId := Fin 129

/-- Pacer `n = 16·q + i` (R17). -/
abbrev PacerId := Fin 64

/-- Seam `s = 64·q + i` (R17). -/
abbrev SeamId := Fin 256

/-- User pin `p = 48·b + i` (R226). -/
abbrev PinId := Fin 576

/-- Region 0 to 15 (R303). -/
abbrev RegionId := Fin 16

/-- The levels sampled on BOOTSEL1–0 and PULLSEL when a reset ends (R256). -/
structure Straps where
  bootsel : BitVec 2
  pullsel : Bool
deriving DecidableEq, Repr

/-- The width of a memory access (R132). -/
inductive MemWidth where
  | byte
  | half
  | word
deriving DecidableEq, Repr

/-- The element of the fabric whose handshake one LANE_HANDSHAKE advances (R10, and the steps that
95_what_each_step_holds.md lists inside it). -/
inductive Site where
  /-- Cell `k` of cluster `c`: the LUT, the token register or the read port (R30, R32, R41). -/
  | cell (t : TileId) (c : Fin 1024) (k : Fin 16)
  /-- The carry-out of a chained cell (R35, R36). -/
  | carry (t : TileId) (c : Fin 1024) (k : Fin 16)
  /-- The write port of a cluster in memory mode (R40). -/
  | memWrite (t : TileId) (c : Fin 1024)
  /-- Outgoing lane `l` of cluster `c`, as a wire from its multiplexer (R56, R57). -/
  | lane (t : TileId) (c : Fin 1024) (l : Fin 32)
  /-- The pip of outgoing lane `l` of cluster `c` (R68). -/
  | pip (t : TileId) (c : Fin 1024) (l : Fin 32)
  /-- The welt through which the lane that ends as incoming lane `l` of cluster `c` enters tile `t` (R54). -/
  | welt (t : TileId) (c : Fin 1024) (l : Fin 32)
  /-- Spine `s` of tile `t`; `upset` names a second tap that a configuration upset enables (R63, R66). -/
  | spine (t : TileId) (s : Fin 128) (upset : Option (Fin 32))
  /-- Outward lane `l` of port `p` (0–15 taps, 16–31 eyelets): the port's acknowledge returns (R61, R145). -/
  | outward (t : TileId) (p : Fin 32) (l : Fin 16)
  /-- Inward lane `l` of port `p`: the offered token's handshake goes on (R145). -/
  | inward (t : TileId) (p : Fin 32) (l : Fin 16)
  /-- A DIRECT pin samples its pad on the fabric's request; `ball` is what the board drives (R233). -/
  | pinSample (p : PinId) (ball : Option Bool)
  /-- A DIRECT pin takes an output or enable token (R233). -/
  | pinOutput (p : PinId)
  /-- The join takes the offered pace token (R76, R81). -/
  | pace (n : PacerId)
  /-- A code checker of a cell output or carry lane sees a fault; `illegal` tells 0b11 from a change
  of token value without a spacer (R45). -/
  | cellChecker (t : TileId) (c : Fin 1024) (k : Fin 16) (carry illegal : Bool)
  /-- The code checker of a spine sees a fault (R66). -/
  | spineChecker (t : TileId) (s : Fin 128) (illegal : Bool)
deriving DecidableEq, Repr

/-- A request that reaches port P of a tile: a core's outstanding load, its oldest posted store, or its atomic
operation (R101). -/
inductive PAccess where
  | load (c : CoreId)
  | store (c : CoreId)
  | atomic (c : CoreId) (f : Option Word)
deriving DecidableEq, Repr

/-- A party whose request is at Lace: a core, or the eyelet port whose lead eyelet is `e` (R173, R181). -/
inductive LaceCaller where
  | core (c : CoreId)
  | port (t : TileId) (e : Fin 16)
deriving DecidableEq, Repr

/-- The three registers that PWR_LIMIT_WRITE names (R339, R342). -/
inductive LimitReg where
  | vlim
  | warn
  | trip
deriving DecidableEq, Repr

/-- The background tests of R377; a March pass names its target. -/
inductive BgTest where
  | bank (t : TileId)
  | localMem (t : TileId)
  | qsram
  | analog
deriving DecidableEq, Repr

/-- Which run of Awl a step belongs to: the test on demand (R381), a start-up tile test (R376) or a
background pass (R377). -/
inductive BistRun where
  | demand
  | startup (t : TileId)
  | background (b : BgTest)
deriving DecidableEq, Repr

/-- The commands of the block, in the table's order. The instruction rows of the Cobblers and of
Quince carry the core that runs the instruction and, when the core had fetched it before a later
write, the word it then fetched (R136); `none` stands for the word that memory holds at the pc. -/
inductive Instr where
  /-- POWER_ON_RESET (R334). VAON and VAUX rise above their thresholds, and power-on reset ends 2 ms later, so the boot ROM starts at step 1. -/
  | powerOnReset (straps : Straps)
  /-- RESET_N (R397). A low pulse of at least 1 µs on RESET_N resets the device and returns it to boot ROM step 1. -/
  | resetN (straps : Straps)
  /-- ANALOG_STARTUP (R376). The mandatory start-up self-test ends; on failure the device goes to STATUS 7 and stops. -/
  | analogStartup (verdicts : BitVec 29) (codes : List (BitVec 16)) (skipped : BitVec 12)
  /-- BOOT_TABLE_READ (R261). The boot ROM reads and validates the 32-byte boot table, falls back to the backup copy at 0x1000, programs the regulator and raises VC_EN. Each copy comes as the levels of CF_D7–0 in each CF_SCK cycle (R257). -/
  | bootTableRead (main backup : List Byte) (vmode : Option Byte) (accepted : Bool)
  /-- VCORE_ARRIVAL (R335). The measured VCORE comes within 25 mV of its target after VC_EN rises, and the boot ROM applies the table settings and starts loading. -/
  | vcoreArrival (mv : Nat)
  /-- VCORE_ARRIVAL_TIMEOUT (R335). VCORE does not arrive within 10 ms of VC_EN, and the device goes to STATUS 7 with SERVICE_N low. -/
  | vcoreArrivalTimeout
  /-- LOAD_ATTEMPT (R286). The loader starts loading the primary or golden image under the try policy, or finds that no loadable image remains. -/
  | loadAttempt
  /-- HEAD (R265). The loader takes a HEAD record whole and checks magic, version, kind, dev_id and the region mask. -/
  | head (lines : List Byte)
  /-- FRAME (R275). The loader takes a FRAME record whole, checks its address, region and content, and writes the frame. -/
  | frame (lines : List Byte)
  /-- PACKED (R267). The loader decodes a PACKED record to 256 frame bytes, then checks and writes the frame. -/
  | packed (lines : List Byte)
  /-- DICT (R268). The loader stores a DICT record's frame in a dictionary slot and writes nothing to the device. -/
  | dict (lines : List Byte)
  /-- STAMP (R268). The loader writes a dictionary slot to count frame addresses spaced by stride, checking each frame. -/
  | stamp (lines : List Byte)
  /-- ZERO (R268). The loader writes count all-zero frames spaced by stride, checking each frame. -/
  | zero (lines : List Byte)
  /-- REGIONS (R269). The loader takes the region table of a full image and rejects masks that overlap. -/
  | regions (lines : List Byte)
  /-- SEQ (R288). The loader takes the start-up step list and checks its order. -/
  | seq (lines : List Byte)
  /-- SIGREF (R271). The loader takes the reference signatures that Awl uses for image-chosen tests. -/
  | sigref (lines : List Byte)
  /-- QUINCE (R272). The loader copies the record's data into Quince private SRAM, clearing the SRAM before the first such record. -/
  | quince (lines : List Byte)
  /-- AUTH (R273). The loader takes the Ed25519 public key and signature and starts streaming the signed message for verification. -/
  | auth (lines : List Byte)
  /-- END (R274). The loader checks the image CRC, the frame count, AUTH and the seam and pin bindings, then starts the sequence or sets the partial region to HELD. -/
  | endRecord (lines : List Byte)
  /-- AUTH_VERDICT (R273). Signature verification completes up to 12 ms after END, and the load passes or fails with AUTH. -/
  | authVerdict
  /-- RECORD_RETRY (R282). A record whose CRC failed, or that did not decode, is read again from flash or memory, up to CFG_RETRY.limit times. -/
  | recordRetry (lines : List Byte)
  /-- LOAD_WATCHDOG_EXPIRY (R283). The load watchdog expires, which cancels any retry and ends the load with code WDOG. -/
  | loadWatchdogExpiry
  /-- JTAG_IMAGE_BYTE (R258). A byte shifted under CFG_LOAD enters the loader's 4 KiB input buffer as the next image byte, or is lost if the buffer is full. -/
  | jtagImageByte (b : Byte)
  /-- CFG_LOAD_CAPTURE (R258). A Capture-DR of CFG_LOAD loads the status byte with room, done and failed. -/
  | cfgLoadCapture
  /-- EXTEST (R250). The EXTEST instruction gives the pads to the boundary register while the core side keeps working. -/
  | extest (pads : BitVec 1788) (dr : Option (BitVec 1788))
  /-- SAMPLE_PRELOAD (R249). The SAMPLE/PRELOAD instruction samples or preloads the boundary register. -/
  | samplePreload (pads : BitVec 1788) (dr : Option (BitVec 1788))
  /-- IDCODE (R249). The IDCODE instruction returns 0x1E51_C0A3. -/
  | idcode
  /-- HIGHZ (R250). The HIGHZ instruction turns every pad driver off through the boundary register. -/
  | highz
  /-- CLAMP (R250). The CLAMP instruction holds the pads at the boundary-register values with the bypass path selected. -/
  | clamp
  /-- CFG_LOAD (R258). The CFG_LOAD instruction starts an image load over JTAG. -/
  | cfgLoad
  /-- DEBUG (R333). The DEBUG instruction selects the 68-bit debug data register, or acts as BYPASS when debug is locked. -/
  | debug
  /-- BYPASS (R249). The BYPASS instruction, or any unassigned code, selects the bypass register. -/
  | bypass (code : Byte)
  /-- TAP_INSTRUCTION_EXIT (R250). Leaving EXTEST, HIGHZ or CLAMP returns each pin to its function through the switch of R239. -/
  | tapInstructionExit
  /-- DEBUG_STATUS (R333). Debug command 0 returns status only. -/
  | debugStatus
  /-- DEBUG_HALT (R333). Debug command 1 stops Quince at the next instruction boundary. -/
  | debugHalt
  /-- DEBUG_RESUME (R333). Debug command 2 resumes Quince. -/
  | debugResume
  /-- DEBUG_STEP (R333). Debug command 3 runs one Quince instruction while Quince is halted. -/
  | debugStep
  /-- DEBUG_READ_WORD (R333). Debug command 4 reads a word through Quince's address map. -/
  | debugReadWord (addr : Word)
  /-- DEBUG_WRITE_WORD (R333). Debug command 5 writes a word through Quince's address map. -/
  | debugWriteWord (addr data : Word)
  /-- DEBUG_READ_REGISTER (R333). Debug command 6 reads a Quince register of any bank, pc or a CSR, and returns err while Quince runs. -/
  | debugReadRegister (r : Word)
  /-- DEBUG_WRITE_REGISTER (R333). Debug command 7 writes a Quince register of any bank, pc or a CSR, and returns err while Quince runs. -/
  | debugWriteRegister (r data : Word)
  /-- DEBUG_RESERVED_COMMAND (R333). Debug commands 8 to 15 return err. -/
  | debugReservedCommand (cmd : BitVec 4)
  /-- SEQ_STEP (R287). At the HK edge after the previous step completes, the loader begins the next start-up step. -/
  | seqStep
  /-- SEQ_STEP_COMPLETE (R287). A step that takes time, such as RELEASE_SR placement or ENABLE_WRITES, reports completion. -/
  | seqStepComplete
  /-- WAIT_LOCK_TIMEOUT (R287). WAIT_LOCK is not complete within 10 ms, and the load fails with LOCK. -/
  | waitLockTimeout
  /-- DELAY_EXPIRY (R287). A DELAY step's time has elapsed in HK cycles. -/
  | delayExpiry
  /-- WAIT_PIN_MATCH (R287). The synchronised pin level equals the level that WAIT_PIN waits for. -/
  | waitPinMatch (ball : Option Bool)
  /-- WAIT_PIN_TIMEOUT (R287). A WAIT_PIN times out, which sets CFG_SEQ.pin_tmo, and the sequence continues. -/
  | waitPinTimeout
  /-- ROOT_LOCK (R200). The root PLL locks, and all edge-clock dividers restart from the lock origin. -/
  | rootLock
  /-- PHASE_LOCK (R197). A quadrant's phase-alignment loop reports lock. -/
  | phaseLock (q : Fin 4) (err : Byte)
  /-- LOCK_LOSS (R199). The PLL loses lock or XIN stops, so the edge clocks stop, a record is written and a relock is attempted. -/
  | lockLoss (xinFail : Bool)
  /-- RELOCK (R198). A write of CLK_ROOT.relock stops the edge clocks and relocks the PLL to the new settings. -/
  | relock
  /-- PLL_EN_WRITE (R221). A write of pll_en turns the PLL off, or on again with a checked relock. -/
  | pllEnWrite (on : Bool)
  /-- CLK_EC_WRITE (R201). A write to CLK_ECn is checked against 650 MHz, and the clock then restarts on its new grid or stops. -/
  | clkEcWrite (n : Fin 8) (v : Word)
  /-- CLK_PHASE_WRITE (R225). A write of the trim or en of a phase loop moves the quadrant's edges, or starts the loop locking. -/
  | clkPhaseWrite (q : Fin 4) (v : Word)
  /-- LANE_HANDSHAKE (R10). A token or spacer arrives at a consumer and the four-phase handshake advances through the stage. -/
  | laneHandshake (site : Site)
  /-- TOK_RATE_WINDOW (R49). A 100-HK-cycle window ends, and TILE_TOK.tok_rate is updated. -/
  | tokRateWindow
  /-- PACE_TICK (R81). A pacer's accumulator carries out of bit 31; the tick's token is issued, or the tick is a deficit event.
  `run` is a clock, a pacer and a number of edges (log entry 20). -/
  | paceTick (run : Fin 8 × PacerId × Nat)
  /-- DEBT_REPAY (R82). On an edge with no tick, a free place and debt above zero, the pacer sends one owed token.
  `edge` is a clock and a pacer. -/
  | debtRepay (edge : Fin 8 × PacerId)
  /-- TAKE_VISIBLE (R83). A pace-token take crosses to the clocked side, which updates lead, offered and the take count. -/
  | takeVisible (n : PacerId)
  /-- PACE_CTRL_WRITE (R87). A PACE_CTRL write is checked under R77 and applied, or starts a change of join. -/
  | paceCtrlWrite (n : PacerId) (v : Word)
  /-- JOIN_CHANGE (R87). After the old join has taken all its tokens, the pace lane moves to the new join cluster. -/
  | joinChange (n : PacerId)
  /-- PACE_INC_WRITE (R87). A PACE_INC write takes effect on the first pacer edge at least two HK cycles later. -/
  | paceIncWrite (n : PacerId) (v : Word)
  /-- ACC_CLR (R91). PACE_CTRL.acc_clr clears the pacer's accumulator on its next edge. -/
  | accClr (n : PacerId)
  /-- PACE_CNT_CLR (R91). PACE_CTRL.cnt_clr clears PACE_CNTL, PACE_CNTH and deficits. -/
  | paceCntClr (n : PacerId)
  /-- DEBT_CLR (R91). PACE_CTRL.debt_clr sets debt to zero. -/
  | debtClr (n : PacerId)
  /-- LEAD_MAX_CLR (R93). PACE_LEAD.lead_max_clr sets lead_max to the current lead. -/
  | leadMaxClr (n : PacerId)
  /-- PACE_CNTL_READ (R94). A read of PACE_CNTL latches the upper half of the count for the next PACE_CNTH read. -/
  | paceCntlRead (c : CoreId) (n : PacerId)
  /-- PORT_F_REQUEST (R103). Port F latches a complete request from the tap lanes and acknowledges it. -/
  | portFRequest (t : TileId)
  /-- BANK_WINDOW (R108). A sub-bank serves one arbitration window of P, F or mover requests, with ECC and collision handling.
  `own` and `bus` are what the own Cobbler and the tile bus bring to port P (log entry 94). -/
  | bankWindow (t : TileId) (sub : Fin 8) (own bus : List PAccess)
  /-- PORT_F_RESPONSE (R103). Port F offers a response on the inward lanes, in order, with err and superseded. -/
  | portFResponse (t : TileId)
  /-- PATROL_PASS_START (R118). The patrol scrub starts a pass over the bank when the period is due. -/
  | patrolPassStart (t : TileId)
  /-- PATROL_READ (R118). The mover reads the next bank word for the patrol and corrects or poisons it. -/
  | patrolRead (t : TileId) (upset : Option Bool)
  /-- MEMORY_CLEAR_COMPLETE (R124). Clearing of a tile's bank and local memory ends after 4,096 sub-bank cycles. -/
  | memoryClearComplete (t : TileId)
  /-- BANK_CNT_CLR (R120). TILE_BANK.cnt_clr clears coll_cnt. -/
  | bankCntClr (t : TileId)
  /-- ECC_CNT_CLR (R121). TILE_ECC.cnt_clr clears bank_ce and local_ce. -/
  | eccCntClr (t : TileId)
  /-- ADD (R130). ALU fn 0 adds ra and rb. -/
  | add (c : CoreId) (f : Option Word)
  /-- SUB (R130). ALU fn 1 subtracts rb from ra. -/
  | sub (c : CoreId) (f : Option Word)
  /-- AND (R130). ALU fn 2 computes ra AND rb. -/
  | andR (c : CoreId) (f : Option Word)
  /-- OR (R130). ALU fn 3 computes ra OR rb. -/
  | orR (c : CoreId) (f : Option Word)
  /-- XOR (R130). ALU fn 4 computes ra XOR rb. -/
  | xorR (c : CoreId) (f : Option Word)
  /-- SHL (R130). ALU fn 5 shifts ra left by rb[4:0]. -/
  | shl (c : CoreId) (f : Option Word)
  /-- SHR (R130). ALU fn 6 shifts ra right logically by rb[4:0]. -/
  | shr (c : CoreId) (f : Option Word)
  /-- SRA (R130). ALU fn 7 shifts ra right arithmetically by rb[4:0]. -/
  | sra (c : CoreId) (f : Option Word)
  /-- SLT (R130). ALU fn 8 gives a signed less-than result. -/
  | slt (c : CoreId) (f : Option Word)
  /-- SLTU (R130). ALU fn 9 gives an unsigned less-than result. -/
  | sltu (c : CoreId) (f : Option Word)
  /-- MUL (R130). ALU fn 10 gives the low 32 bits of the product. -/
  | mul (c : CoreId) (f : Option Word)
  /-- MULHU (R130). ALU fn 11 gives the high 32 bits of the unsigned product. -/
  | mulhu (c : CoreId) (f : Option Word)
  /-- MULHS (R130). ALU fn 12 gives the high 32 bits of the signed product. -/
  | mulhs (c : CoreId) (f : Option Word)
  /-- DIVU (R130). ALU fn 13 gives the unsigned quotient, or all ones when dividing by zero. -/
  | divu (c : CoreId) (f : Option Word)
  /-- REMU (R130). ALU fn 14 gives the unsigned remainder, or ra when dividing by zero. -/
  | remu (c : CoreId) (f : Option Word)
  /-- MIN (R130). ALU fn 15 gives the signed minimum. -/
  | min (c : CoreId) (f : Option Word)
  /-- MAX (R130). ALU fn 16 gives the signed maximum. -/
  | max (c : CoreId) (f : Option Word)
  /-- CLZ (R130). ALU fn 17 counts the leading zeros of ra. -/
  | clz (c : CoreId) (f : Option Word)
  /-- POPC (R130). ALU fn 18 counts the 1 bits of ra. -/
  | popc (c : CoreId) (f : Option Word)
  /-- BSWAP (R130). ALU fn 19 reverses the bytes of ra. -/
  | bswap (c : CoreId) (f : Option Word)
  /-- ADDI (R129). Adds a sign-extended immediate to ra. -/
  | addi (c : CoreId) (f : Option Word)
  /-- ANDI (R129). ANDs ra with a zero-extended immediate. -/
  | andi (c : CoreId) (f : Option Word)
  /-- ORI (R129). ORs ra with a zero-extended immediate. -/
  | ori (c : CoreId) (f : Option Word)
  /-- XORI (R129). XORs ra with a zero-extended immediate. -/
  | xori (c : CoreId) (f : Option Word)
  /-- SLTI (R129). Compares ra signed against a sign-extended immediate. -/
  | slti (c : CoreId) (f : Option Word)
  /-- SHIFTI_SHL (R131). SHIFTI with kind 0 shifts ra left by an immediate amount. -/
  | shiftiShl (c : CoreId) (f : Option Word)
  /-- SHIFTI_SHR (R131). SHIFTI with kind 1 shifts ra right logically by an immediate amount. -/
  | shiftiShr (c : CoreId) (f : Option Word)
  /-- SHIFTI_SRA (R131). SHIFTI with kind 2 shifts ra right arithmetically by an immediate amount. -/
  | shiftiSra (c : CoreId) (f : Option Word)
  /-- LUI (R131). Writes the immediate to bits [31:14] of rd and clears bits [13:0]. -/
  | lui (c : CoreId) (f : Option Word)
  /-- LDW (R132). Issues a word load. -/
  | ldw (c : CoreId) (f : Option Word)
  /-- LDH (R132). Issues a sign-extending halfword load. -/
  | ldh (c : CoreId) (f : Option Word)
  /-- LDHU (R132). Issues a zero-extending halfword load. -/
  | ldhu (c : CoreId) (f : Option Word)
  /-- LDB (R132). Issues a sign-extending byte load. -/
  | ldb (c : CoreId) (f : Option Word)
  /-- LDBU (R132). Issues a zero-extending byte load. -/
  | ldbu (c : CoreId) (f : Option Word)
  /-- STW (R135). Posts a word store. -/
  | stw (c : CoreId) (f : Option Word)
  /-- STH (R135). Posts a halfword store. -/
  | sth (c : CoreId) (f : Option Word)
  /-- STB (R135). Posts a byte store. -/
  | stb (c : CoreId) (f : Option Word)
  /-- LOAD_RESPONSE (R135). A load's data or error response returns to the core and writes rd, or traps. -/
  | loadResponse (c : CoreId) (upset : Option Bool)
  /-- STORE_PERFORM (R135). A posted store is performed at its target and leaves the buffer. -/
  | storePerform (c : CoreId)
  /-- STORE_ERROR_RESPONSE (R137). A posted store receives an error response, and the core takes a deferred trap at its next boundary. -/
  | storeErrorResponse (c : CoreId)
  /-- BEQ (R129). Branches if ra equals rb. -/
  | beq (c : CoreId) (f : Option Word)
  /-- BNE (R129). Branches if ra differs from rb. -/
  | bne (c : CoreId) (f : Option Word)
  /-- BLT (R129). Branches if ra is less than rb, signed. -/
  | blt (c : CoreId) (f : Option Word)
  /-- BGE (R129). Branches if ra is at least rb, signed. -/
  | bge (c : CoreId) (f : Option Word)
  /-- BLTU (R129). Branches if ra is less than rb, unsigned. -/
  | bltu (c : CoreId) (f : Option Word)
  /-- BGEU (R129). Branches if ra is at least rb, unsigned. -/
  | bgeu (c : CoreId) (f : Option Word)
  /-- JAL (R129). Writes the return address to g15 and jumps relative to pc. -/
  | jal (c : CoreId) (f : Option Word)
  /-- JALR (R138). Writes the return address to rd and jumps to ra plus an offset, trapping ALIGN on a misaligned target. -/
  | jalr (c : CoreId) (f : Option Word)
  /-- AADD (R139). Performs an atomic add on a bank word and returns the old value. -/
  | aadd (c : CoreId) (f : Option Word)
  /-- ASWP (R139). Performs an atomic swap on a bank word and returns the old value. -/
  | aswp (c : CoreId) (f : Option Word)
  /-- QPUSH (R141). Sends a push request to the queue's home node. -/
  | qpush (c : CoreId) (f : Option Word)
  /-- QPOP (R141). Sends a pop request that waits without limit. -/
  | qpop (c : CoreId) (f : Option Word)
  /-- QTRY (R141). Sends a pop request that does not wait. -/
  | qtry (c : CoreId) (f : Option Word)
  /-- QSTEAL (R141). Sends a request to take from the thief end of a DEQUE. -/
  | qsteal (c : CoreId) (f : Option Word)
  /-- QTAKE (R178). Pops the engine's own run deque, then tries the steal victims in policy order. -/
  | qtake (c : CoreId) (f : Option Word)
  /-- QWAIT (R141). Sends a pop request that waits with a timeout. -/
  | qwait (c : CoreId) (f : Option Word)
  /-- QSTAT (R141). Sends a request to read a queue's occupancy. -/
  | qstat (c : CoreId) (f : Option Word)
  /-- QUEUE_RESPONSE (R142). A queue operation's answer reaches the core, which writes rd and the status word and completes the instruction. -/
  | queueResponse (c : CoreId)
  /-- TRD (R145). Reads a tap's DATA word when all outward lanes are complete, or reads STAT at once. -/
  | trd (c : CoreId) (f : Option Word)
  /-- TWR (R145). Places a 16-bit word in the tap output register once it is free. -/
  | twr (c : CoreId) (f : Option Word)
  /-- TRDW (R145). Reads a tap's DATA word with a timeout in LACE_TICK units. -/
  | trdw (c : CoreId) (f : Option Word)
  /-- TAP_WORD_TAKE (R145). A complete outward tap word is taken by a waiting TRD or TRDW, which retires.
  `word` is the core, and whether Quince's answer is still on its way (R144). -/
  | tapWordTake (word : CoreId × Bool)
  /-- TAP_REGISTER_FREE (R145). The tap's output word completes its handshake, which frees the register for a waiting TWR.
  `tap` is the tap, and whether Quince's answer is still on its way. -/
  | tapRegisterFree (t : TileId) (tap : Fin 16 × Bool)
  /-- TRDW_TIMEOUT (R145). A TRDW's timeout expires on the tick grid before a word arrives. -/
  | trdwTimeout (c : CoreId)
  /-- EVW (R148). Waits for event bits in a mask and takes them, or on Quince waits for an interrupt. -/
  | evw (c : CoreId) (f : Option Word)
  /-- EVSET (R148). ORs event bits into a target engine's TILE_EVT. -/
  | evset (c : CoreId) (f : Option Word)
  /-- TILE_EVT_SET (R147). An event setting from EVSET, a watermark, a pin bank, a tap or the timer reaches TILE_EVT.pend. -/
  | tileEvtSet (t : TileId) (b : Fin 16)
  /-- EVW_WAKE (R148). A waiting EVW finds pend AND mask nonzero, takes the bits and retires. -/
  | evwWake (c : CoreId)
  /-- SYS (R151). A Cobbler enters state SYS for Quince to serve; on Quince it is a trap. -/
  | sys (c : CoreId) (f : Option Word)
  /-- FENCE (R136). Waits for all earlier accesses and discards instructions fetched before it. -/
  | fence (c : CoreId) (f : Option Word)
  /-- CSRR (R149). Reads a core CSR, latching the upper half for INSTRET_L and TIME_L. -/
  | csrr (c : CoreId) (f : Option Word)
  /-- CSRW (R149). Writes a writable core CSR. -/
  | csrw (c : CoreId) (f : Option Word)
  /-- PINR (R162). Quince reads a pin's pad level and latches. -/
  | pinr (c : CoreId) (f : Option Word) (ball : Option Bool)
  /-- PINW (R242). Quince sets a pin's output and enable latches. -/
  | pinw (c : CoreId) (f : Option Word)
  /-- IRET (R166). Quince leaves the most recently entered context. -/
  | iret (c : CoreId) (f : Option Word)
  /-- HALT (R150). A Cobbler halts with cause HALT; on Quince it is a trap. -/
  | halt (c : CoreId) (f : Option Word)
  /-- TRAP (R150). The core traps with cause TRAP and code imm26. -/
  | trap (c : CoreId) (f : Option Word)
  /-- START (R154). TILE_CTRL.start restarts a HALTED or FAULTED engine from 0x0180_0000. -/
  | start (t : TileId)
  /-- RESUME (R154). TILE_CTRL.resume continues an engine at TILE_EPC. -/
  | resume (t : TileId)
  /-- HALT_REQUEST (R154). TILE_CTRL.halt stops a running or waiting engine at the next boundary with cause HALTREQ. -/
  | haltRequest (t : TileId)
  /-- STEP (R154). TILE_CTRL.step runs one instruction of a halted engine. -/
  | step (t : TileId)
  /-- TILE_TIMER_WRITE (R157). A write of TILE_TIMER starts or stops the engine timer. -/
  | tileTimerWrite (t : TileId) (v : Word)
  /-- TILE_TIMER_EXPIRY (R157). The engine timer reaches zero, sets TILE_EVT bit 15 and reloads if periodic. -/
  | tileTimerExpiry (t : TileId)
  /-- ENG_WDOG (R152). An engine makes no progress for FLT_EWDOG µs, and the engine watchdog expires. -/
  | engWdog (t : TileId)
  /-- INTERRUPT_ENTRY (R164). Quince takes a presented interrupt at an instruction boundary and enters its shadow bank and vector. -/
  | interruptEntry
  /-- INTC_ACK (R326). A write to INTC_ACK ends service of a source. -/
  | intcAck (src : Byte)
  /-- INTC_RESAMPLE (R326). Two HK cycles after an acknowledge, the controller samples the source again. -/
  | intcResample (src : Byte)
  /-- NODE_PUSH (R175). The home node performs a push, hands it to a waiter, appends it, or returns FULL, DENIED, KIND or FAULT. -/
  | nodePush (k : LaceCaller)
  /-- NODE_POP (R175). The home node performs a pop, returning an entry, EMPTY, a wait, or an error status. -/
  | nodePop (k : LaceCaller)
  /-- NODE_STEAL (R175). The home node takes the oldest entry of a DEQUE for a thief. -/
  | nodeSteal (k : LaceCaller)
  /-- NODE_STAT (R175). The home node reads a queue's occupancy. -/
  | nodeStat (k : LaceCaller)
  /-- WAITER_TIMEOUT (R174). A waiter's timeout expires at its tick boundary, and the waiter ends with TIMEOUT. -/
  | waiterTimeout (k : LaceCaller) (expiryWins : Bool)
  /-- DESCRIPTOR_STORE (R172). A store to a descriptor is applied between node operations, or discarded for a non-owner Cobbler. -/
  | descriptorStore (c : CoreId) (addr : Word) (width : MemWidth) (data : Word)
  /-- RING_PACKET (R185). A Lace packet arrives at a node over a link and is checked by CRC. -/
  | ringPacket (k : LaceCaller) (crcOk : Bool)
  /-- PACKET_RETRY (R186). A packet that failed its CRC is sent again, and the link fails when the last retry fails. -/
  | packetRetry (k : LaceCaller) (crcOk : Bool)
  /-- EYELET_PUSH (R183). A PUSH eyelet port accepts a complete entry and sends it to the home node. -/
  | eyeletPush (t : TileId) (e : Fin 16)
  /-- EYELET_POP (R183). A POP eyelet port accepts a request of value 0 that waits for an entry. -/
  | eyeletPop (t : TileId) (e : Fin 16)
  /-- EYELET_TRY (R183). A POP eyelet port accepts a request of value 1 that answers EMPTY at once. -/
  | eyeletTry (t : TileId) (e : Fin 16)
  /-- EYELET_ANSWER (R182). The node's status or entry reaches the eyelet port and is offered on the inward lanes. -/
  | eyeletAnswer (t : TileId) (e : Fin 16)
  /-- ADOPTION_COMPLETE (R188). Every node has rewritten the fenced engine's queues to the adopter, and an ADOPT record is written. -/
  | adoptionComplete
  /-- LACE_RETRY_CNT_CLR (R193). LACE_RETRY.cnt_clr clears retry_cnt. -/
  | laceRetryCntClr
  /-- LACE_NOPS_CNT_CLR (R195). LACE_NCTRL.cnt_clr clears LACE_NOPS. -/
  | laceNopsCntClr (m : Fin 4)
  /-- LACE_MAX_CLR (R195). LACE_NCTRL.max_clr sets the maximum waiter count to the current count. -/
  | laceMaxClr (m : Fin 4)
  /-- LACE_TICK_WRITE (R192). A write of LACE_TICK.div takes effect at the next tick boundary. -/
  | laceTickWrite (v : Word)
  /-- SEAM_WORD_ACCEPT (R208). An OUT seam's fabric side takes a complete word from its taps into the crossing. -/
  | seamWordAccept (s : SeamId)
  /-- SEAM_OUT_LOAD (R207). An OUT seam's clocked side loads a word onto the pins at a slot or transfer, or counts a miss or underrun. -/
  | seamOutLoad (s : SeamId) (qual : Bool) (late : Bool)
  /-- SEAM_IN_CAPTURE (R207). An IN seam captures the pins into the crossing and offers the word on the taps, or counts a miss or overrun. -/
  | seamInCapture (s : SeamId) (pads : DWord) (qual : Bool)
  /-- SEAM_ROOM_VISIBLE (R208). A taken entry or an acknowledge becomes visible as room on the other side of the seam. -/
  | seamRoomVisible (s : SeamId)
  /-- EVENT_SEAM_TRANSFER (R214). An EVENT seam transfers the source count into the destination counter and delivers it as a count or pulses. -/
  | eventSeamTransfer (s : SeamId)
  /-- FAULT_HOLD_ENTRY (R212). A seam whose epochs differ enters FAULT_HOLD and raises epoch_err. -/
  | faultHoldEntry (s : SeamId)
  /-- GRP_RST (R212). SEAM_GRP.grp_rst resets both sides of every seam of the group. -/
  | grpRst (s : SeamId)
  /-- GROUP_RESET_COMPLETE (R213). The clocked side completes a group reset on its edges, and the seam enters RUN. -/
  | groupResetComplete (s : SeamId)
  /-- RST_F (R212). SEAM_GRP.rst_f resets only the fabric side and toggles its epoch. -/
  | rstF (s : SeamId)
  /-- RST_E (R212). SEAM_GRP.rst_e resets only the clocked side and toggles its epoch. -/
  | rstE (s : SeamId)
  /-- SEAM_CNT_CLR (R218). SEAM_GRP.cnt_clr clears SEAM_CNT. -/
  | seamCntClr (s : SeamId)
  /-- SEAM_CFG_WRITE (R216). A SEAM_CFG write is checked and held as pending until the next group reset. -/
  | seamCfgWrite (s : SeamId) (v : Word)
  /-- PIN_SEAM_TRANSFER (R215). A pin seam takes an output entry or captures an input sample on the pin's edge clock. -/
  | pinSeamTransfer (p : PinId) (rise fall : Option Bool)
  /-- PIN_CFG_WRITE (R239). A PIN_CFG write is accepted, held, or discarded, or applies rst_lvl and rcfg at once. -/
  | pinCfgWrite (p : PinId) (v : Word)
  /-- FUNCTION_SWITCH (R239). A pin's function switch runs its three HK cycles and moves the pad to its new source at most once. -/
  | functionSwitch (p : PinId)
  /-- PIN_IRQ_WRITE (R240). A PIN_IRQ write is checked against R231 and applied or discarded. -/
  | pinIrqWrite (p : PinId) (v : Word)
  /-- PIN_LATCH_WRITE (R241). A write to PIN_OUTk or PIN_OEk sets 32 latches at one HK edge. -/
  | pinLatchWrite (oe : Bool) (k : Fin 18) (v : Word)
  /-- PIN_DETECTION (R243). A pin detector accepts a new level, sets pend under its trigger and signals the bank, the engine and the fabric lane. -/
  | pinDetection (p : PinId) (level : Bool)
  /-- TILE_FENCE (R358). A tile is fenced by a fault or an FLT_TFENCE write: engine, cells, Lace, seams and pins are contained, and the welts seal. -/
  | tileFence (t : TileId)
  /-- ENGINE_FENCE (R359). An engine is fenced, its posted stores are discarded and adoption of its queues starts. -/
  | engineFence (t : TileId)
  /-- EFENCE_RELEASE (R360). A write of 0 to an FLT_EFENCE bit releases the engine to HALTED while its tile is not fenced. -/
  | efenceRelease (t : TileId)
  /-- FAULT_REPORT (R355). A fault reaches the fault manager, which writes one record to the log and takes the action of its policy. -/
  | faultReport
  /-- STALL_TRIP (R363). A watched lane stays stalled for the limit, and the tile stall watchdog trips and may fence the tile. -/
  | stallTrip (t : TileId) (entry : Fin 64)
  /-- LOGHEAD_CLR (R371). FLT_LOGHEAD.clr zeroes every record of the fault log. -/
  | logheadClr
  /-- WELT_CNT_CLR (R365). TILE_WELT.cnt_clr clears the drained count. -/
  | weltCntClr (t : TileId)
  /-- SCRUB_PASS_START (R301). The configuration scrubber starts a pass when its period is due. -/
  | scrubPassStart
  /-- SCRUB_FRAME (R290). The scrubber reads one configuration frame, corrects single-bit errors and reports double-bit errors. -/
  | scrubFrame (errs : List (Fin 32 × Bool))
  /-- SCRUB_CNT_CLR (R301). CFG_SCRUB.cnt_clr clears ce and ue. -/
  | scrubCntClr
  /-- RELOAD (R289). CFG_CTRL.reload starts a full reload from boot ROM step 4. -/
  | reload
  /-- ERR_CLR (R294). CFG_CTRL.err_clr sets CFG_ERR and CFG_ERRADDR to zero. -/
  | errClr
  /-- REGION_LOAD (R305). The load command enters LOADING and streams a partial image for the region. -/
  | regionLoad
  /-- REGION_ABORT (R311). The abort command ends a streaming partial load with code ABORTED. -/
  | regionAbort
  /-- REGION_RELEASE (R314). The release command starts the release sequence of a HELD region. -/
  | regionRelease
  /-- REGION_CLEAR (R305). The clear command enters LOADING, then gates every tile of the region. -/
  | regionClear
  /-- LOADING_CLEARED (R313). The clearing of R306 completes, and the loader reads the first image byte of the partial image. -/
  | loadingCleared (r : RegionId)
  /-- RELEASE_COMPLETE (R314). The release steps complete, and the region reads RUNNING. -/
  | releaseComplete (r : RegionId)
  /-- CLEAR_COMPLETE (R313). A clear completes, and the region reads EMPTY. -/
  | clearComplete (r : RegionId)
  /-- TILE_GATE (R346). A write of 1 to a PWR_GATE bit seals the tile's welts, stops its engine and gates the tile. -/
  | tileGate (t : TileId)
  /-- TILE_POWER (R347). A write of 0 to a PWR_GATE bit queues the tile for power-up. -/
  | tilePower (t : TileId)
  /-- TILE_POWER_RESTORE (R347). The next queued tile has its power restored, 2 µs after the one before it. -/
  | tilePowerRestore
  /-- TILE_POWER_COMPLETE (R347). A re-powered tile finishes clearing, placement and welt opening, and its engine halts. -/
  | tilePowerComplete (t : TileId)
  /-- GOVERNOR_WINDOW (R342). A governor window ends, and the target VCORE is recomputed under temperature, limits and mode. -/
  | governorWindow (mv ps : Nat) (slow : Fin 4)
  /-- GOVERNOR_SAMPLE (R344). The PACE governor samples the pacers every 1 µs and raises the target at once on lead or a deficit. -/
  | governorSample
  /-- VOUT_COMMAND (R337). A PMBus VOUT_COMMAND transaction to the regulator completes, is repeated once, or sets pm_err. -/
  | voutCommand (accepted : Bool)
  /-- PM_ALERT (R338). PM_ALERT_N falls, and the governor reads STATUS_WORD and sends CLEAR_FAULTS. -/
  | pmAlert (status : Option (BitVec 16)) (cleared : Bool)
  /-- VCORE_WARNING (R339). VCORE falls below warn, which sets vwarn and makes source 0 pending at level 15. -/
  | vcoreWarning (mv : Nat)
  /-- VCORE_RESET (R339). VCORE falls below trip, and the device resets. -/
  | vcoreReset (reading : Nat × Straps)
  /-- VAUX_WARNING (R339). VAUX falls below 1.68 V, which sets auxwarn. -/
  | vauxWarning
  /-- VAUX_RESET (R339). VAUX falls below 1.62 V, and the device resets. -/
  | vauxReset (reading : Nat × Straps)
  /-- VCCIO_WARNING (R339). A bank's VCCIO falls below its threshold, which sets PIN_BSTAT bit 7. -/
  | vccioWarning (b : Fin 12)
  /-- TEMP_READING (R341). The temperature sensors are read every 100 µs, setting therm or starting a thermal trip. -/
  | tempReading (s0 s1 s2 s3 s4 : Int)
  /-- THERMAL_RESTART (R341). After a thermal trip, tj reads 100 °C or less and the device restarts from boot ROM step 1. -/
  | thermalRestart (tj : Int) (straps : Straps)
  /-- PWR_MODE_WRITE (R350). A PWR_MODE write is applied at the next window end, or refused without PMBus. -/
  | pwrModeWrite (v : Word)
  /-- PWR_LIMIT_WRITE (R339). A write of PWR_VLIM, PWR_WARN or PWR_TRIP is clamped, applied or refused with cfg_rej. -/
  | pwrLimitWrite (reg : LimitReg) (v : Word)
  /-- PNOW_MAX_CLR (R352). PWR_PNOW.max_clr clears the highest power estimate. -/
  | pnowMaxClr
  /-- TEMP_MAX_CLR (R352). PWR_TEMP.max_clr clears the highest temperature. -/
  | tempMaxClr
  /-- UART_DATA_WRITE (R328). A write of UART_DATA appends a byte to the transmit FIFO, or is discarded when it is full. -/
  | uartDataWrite (n : Fin 2) (v : Word)
  /-- UART_DATA_READ (R328). A read of UART_DATA removes the oldest received byte. -/
  | uartDataRead (n : Fin 2)
  /-- UART_RECEIVE (R328). A byte arrives on RX and enters the receive FIFO, or sets rx_ovf, frame_err or parity_err. -/
  | uartReceive (n : Fin 2) (b : Byte) (stopLow parityBad : Bool)
  /-- UART_TRANSMIT_DONE (R328). The UART shifter finishes a byte and takes the next from the FIFO. -/
  | uartTransmitDone (n : Fin 2)
  /-- SPI_DATA_WRITE (R329). A write of SPI_DATA appends a byte to the transmit FIFO. -/
  | spiDataWrite (n : Fin 2) (v : Word)
  /-- SPI_DATA_READ (R329). A read of SPI_DATA removes the oldest received byte. -/
  | spiDataRead (n : Fin 2)
  /-- SPI_BYTE_DONE (R329). The SPI master finishes shifting a byte out and a byte in. -/
  | spiByteDone (n : Fin 2) (miso : Byte)
  /-- I2C_START (R330). I2C_CMD.start issues a start or repeated start condition. -/
  | i2cStart (n : Fin 2)
  /-- I2C_STOP (R330). I2C_CMD.stop issues a stop condition after the other actions of the write. -/
  | i2cStop (n : Fin 2)
  /-- I2C_WRITE (R330). I2C_CMD.write sends I2C_DATA. -/
  | i2cWrite (n : Fin 2) (ack : Bool)
  /-- I2C_READ (R330). I2C_CMD.read receives one byte. -/
  | i2cRead (n : Fin 2) (b : Byte)
  /-- I2C_DONE (R330). An I2C command completes, which sets done, ack_rx or arb_lost. -/
  | i2cDone (n : Fin 2) (arbLost : Bool)
  /-- TIMER_LOAD_WRITE (R331). A write of TIMER_LOAD sets TIMER_COUNT at the next HK edge. -/
  | timerLoadWrite (n : Fin 4) (v : Word)
  /-- TIMER_EXPIRY (R331). A housekeeping timer reaches zero, which sets expired and reloads it if periodic. -/
  | timerExpiry (n : Fin 4)
  /-- QWDOG_CTRL_WRITE (R332). A QWDOG_CTRL write enables the watchdog and starts its count, or sets action and limit. -/
  | qwdogCtrlWrite (v : Word)
  /-- QWDOG_KICK (R332). A write of 0x0000_C0B1 restarts the watchdog count; any other value expires it at once. -/
  | qwdogKick (v : Word)
  /-- QWDOG_EARLY (R332). Half of the watchdog limit elapses without a kick, which sets early. -/
  | qwdogEarly
  /-- QWDOG_EXPIRY (R332). The Quince watchdog expires and performs QRESET, RELOAD or a device reset. -/
  | qwdogExpiry (straps : Straps)
  /-- BIST_START (R381). BIST_CTRL.start starts a test on demand, or is refused. -/
  | bistStart
  /-- BIST_STOP (R373). BIST_CTRL.stop cuts the running test short. -/
  | bistStop
  /-- BIST_PASS_START (R377). A background test pass starts at its mem_period or analog_period. -/
  | bistPassStart (r : BgTest)
  /-- BIST_WINDOW (R378). Awl runs one March window or analogue check step, yielding or holding conflicting accesses. -/
  | bistWindow (r : BistRun) (verdict code : BitVec 16) (skip : Bool) (conflict : Bool)
  /-- BIST_TEST_END (R373). A test ends with complete, match and a result, and a background failure acts under R380. -/
  | bistTestEnd (r : BistRun)
  /-- PERT_KEY_WRITE (R383). A write of PERT_KEY advances the unlock sequence or locks PERT. -/
  | pertKeyWrite (v : Word)
  /-- PERT_LACE_ARM (R384). PERT_LACE.arm forces CRC errors on the next packets of a link. -/
  | pertLaceArm
  /-- PERT_ECC_ARM (R384). PERT_ECC.arm flips one or two bits of a stored word in its next free cycle. -/
  | pertEccArm
  /-- PERT_SUPPLY_VCORE (R384). PERT_SUPPLY bit 0 makes the VCORE warning comparator read low for 2 µs. -/
  | pertSupplyVcore
  /-- PERT_SUPPLY_VAUX (R384). PERT_SUPPLY bit 1 makes the VAUX warning comparator read low for 2 µs. -/
  | pertSupplyVaux
  /-- REGISTER_WRITE (R5). A write to a register that has no row of its own sets, clears or ignores its fields under their access codes. -/
  | registerWrite (c : CoreId) (addr data : Word)
  /-- PULLSEL_CHANGE (R247). The level on the PULLSEL ball changes before RELEASE_OUTPUTS, and the weak pull-up of every user pin follows it. -/
  | pullselChange (level : Bool)
  /-- VCCIO_WARNING_END (R253). A bank's VCCIO returns above its warning threshold, or the bank is powered again, so PIN_BSTAT bit 7 clears and source 8 may stop being pending. -/
  | vccioWarningEnd (b : Fin 12)
  /-- VCORE_WARNING_REARM (R339). VCORE rises above warn + 10 mV, which re-arms the warning comparator so that the next fall sets vwarn again. -/
  | vcoreWarningRearm (mv : Nat)
  /-- VAON_FALL (R334). VAON falls below 0.70 V while the device runs, which asserts power-on reset and drops VC_EN within 1 µs. -/
  | vaonFall
  /-- BANK_UE_1S_EXPIRY (R121). A double-bit detection in a bank becomes older than 1 s, so bank_ue_1s decreases and the fence window of R117 moves on. -/
  | bankUe1sExpiry (t : TileId)
  /-- VCORE_SETTLED (R351). The measured VCORE comes within 10 mV of the governor's target after a slew, which sets PWR_STAT.settled. -/
  | vcoreSettled (mv : Nat)
  /-- PERT_BP_HOLD_EXPIRY (R384). The hold time of an acknowledge that PERT_BP held back runs out, and the acknowledge is passed to the producer. -/
  | pertBpHoldExpiry
  /-- TILE_POWER_REMOVED (R346). Gating of a tile ends when its welts have sealed, its seams and pins are contained and its power is removed, within 5 µs. -/
  | tilePowerRemoved (t : TileId)
  /-- TEST_LOGIC_RESET (R249). TRST_N low or the TMS sequence puts the TAP in Test-Logic-Reset, which selects IDCODE and ends any boundary-scan instruction. -/
  | testLogicReset
deriving DecidableEq, Repr

end Sys2Proof
end

