-- ==== Sys2Proof/Config.lean ====
section
/-! DEFINITION. What an implementation, a part or the outside world fixes and the manual does not
give: opaque constants with no body, so that every claim holds for every value of them. -/

namespace Sys2Proof.Config

/-- FREE VALUE (log entry 7). The `n`-th value that the manual leaves open: the level that a floating
or contended ball reads as (R232, R233), the choice of an arbiter, and the other cases of the log. -/
opaque freeBit : Nat → Bool

/-- FREE VALUE (log entry 7). The `n`-th open 32-bit value. -/
opaque freeWord : Nat → Word

/-- FREE VALUE (log entry 6). Word `n` of the boot ROM: "This manual does not list them" (R323). -/
opaque bootRom : Nat → Word

/-- FREE VALUE (log entry 8). The fused production lock, grade bit and 16 key-digest bytes (R405). -/
opaque lockFuse : Bool

/-- FREE VALUE (log entry 8). 0 is grade C, 1 is grade I (R405). -/
opaque gradeI : Bool

/-- FREE VALUE (log entry 8). DEV_FUSE0–3 as one number, byte 0 lowest; 0 when unfused (R405). -/
opaque fuseDigest : BitVec 128

/-- FREE VALUE (log entry 8). The 64-bit identifier of the part (R405). -/
opaque uid : BitVec 64

/-- FREE VALUE (log entry 86). The energy per token in tenths of a femtojoule at a VCORE in mV for which R48 lists
none. -/
opaque tokenEnergy : Nat → Nat

/-- FREE VALUE (log entry 86). The leakage in units of 0.1 nW of a tile that is powered (0), in RETAIN (1) or
GATED (2), at a VCORE in mV and a temperature for which R345 lists none. -/
opaque leakage : Nat → Nat → Int → Nat

end Sys2Proof.Config
end

