-- ==== Sys2Proof/Machine/State.lean ====
section
/-! DEFINITION. The state of the NQ128 as plain data, and the state right after reset.
Every register of 15_register_index.md, every CSR of R149 and R163, every FIFO, buffer, queue,
counter and mode that the chapters give the device has a field here. Sparse tables are lists of
(number, value) pairs in one canonical form: numbers strictly rising, and no pair that holds the
value which an unlisted number reads as (Machine/Maps.lean, Laws/Maps.lean). -/

namespace Sys2Proof.Machine

/-- A sparse table keyed by a number; see Machine/Maps.lean for the canonical form. -/
abbrev SMap (α : Type) := List (Nat × α)

/-! ### Memories (chapter 05, R323) -/

/-- What the stored code of a word shows when it is not clean (R113, R115). -/
inductive Ecc where
  /-- A single-bit error (R114): bit 0 or, for `true`, bit 1 when PERT_ECC made it (R384), else any bit. -/
  | single (pert : Option Bool)
  /-- A double-bit error that no access has found yet (R115); `injected` when PERT_ECC had a part in it
  (R356), `pure` when the wrong bits are bits 0 and 1 alone (R384). -/
  | double (injected pure : Bool)
  /-- The reserved pattern that poisons the word (R115, R116). -/
  | poison
deriving DecidableEq, Repr

/-- The bytes of bank memory, engine local memory and Quince's private SRAM by global byte address
(R19), and the state of the code of each word that is not clean, by word number (address / 4). -/
structure Memory where
  cells : List Host.Cell
  ecc : SMap Ecc
deriving DecidableEq, Repr

/-! ### Cores (chapter 06) -/

/-- TILE_STAT.state (R155). -/
inductive EngState where
  | held | running | waiting | halted | faulted | sys | fenced | off
deriving DecidableEq, Repr

/-- The cause codes of R150. -/
inductive Cause where
  | none | illegal | access | align | ecc | trap | sys | halt | wdog | haltreq
deriving DecidableEq, Repr

/-- A store in the posted-store buffer (R135). -/
structure Store where
  addr : Word
  width : MemWidth
  data : Word
deriving DecidableEq, Repr

/-- What a performed access brings back to the core (R135, R167). -/
inductive Reply where
  | data (w : Word)
  | err (cause : Cause)
deriving DecidableEq, Repr

/-- The one outstanding load of a core (R135); `reply` is set once the access has been performed. The
instructions after it may have issued: `pc`, `regs` and `instret` are the core's at the load, for a trap
or an interrupt that undoes them (R151, R167). -/
structure Load where
  addr : Word
  width : MemWidth
  signed : Bool
  rd : Nat
  pc : Word
  regs : SMap Word
  instret : Nat
  reply : Option Reply
deriving DecidableEq, Repr

/-- The instruction in which a core waits (R143, R145, R148). -/
inductive Wait where
  /-- EVW: mask, destination, peek. -/
  | evw (mask : BitVec 16) (rd : Nat) (peek : Bool)
  /-- EVW on Quince: until an interrupt is ready to be taken. -/
  | evwQuince (rd : Nat)
  /-- A queue instruction: its request is in `Lace.reqs` (R141). -/
  | queue
  /-- TRD or TRDW on tap `j` of tile `t`; `rs` and the tick boundaries left, for TRDW. -/
  | tapRead (t : Nat) (j : Nat) (rd : Nat) (rs : Option Nat) (ticks : Option Nat)
  /-- TWR on tap `j` of tile `t`. -/
  | tapWrite (t : Nat) (j : Nat) (data : BitVec 16)
  /-- Quince's tap instruction has been performed at tap `j` of tile `t`, and the answer is on its way: the word
  read, or 0 for a TWR (R167). -/
  | tapDone (write : Bool) (t : Nat) (j : Nat) (rd : Nat) (rs : Option Nat) (data : Word)
deriving DecidableEq, Repr

/-- One core: a Cobbler (0–127) or Quince (128). Registers are keyed by `16 · bank + n`; a Cobbler
has bank 0 only, Quince banks 0 (main), 1 and 2 (R125, R164). -/
structure Core where
  state : EngState
  deferred : Bool
  cause : Cause
  epc : Word
  /-- The HK cycle in which the hardware last wrote the exception PC (R8, R159). -/
  epcAt : Option Nat
  eaddr : Word
  pc : Word
  regs : SMap Word
  stores : List Store
  load : Option Load
  storeErr : Option (Cause × Word)
  wait : Option Wait
  haltPend : Bool
  stepping : Bool
  instret : Nat
  instretLatch : Word
  timeLatch : Word
  /-- Upper halves of pace counts that the core's PACE_CNTL reads have latched and that no PACE_CNTH read
  has taken yet, by pacer (R94). -/
  paceLatch : SMap (Option Word)
  scratch0 : Word
  scratch1 : Word
  fetchEpoch : Nat
deriving DecidableEq, Repr

/-- The contexts that Quince can be in (R166). -/
inductive Ctx where
  | trap
  | bank1 (lvlBefore : Nat)
  | bank2 (lvlBefore : Nat)
deriving DecidableEq, Repr

/-- The result of an abandoned access that had been performed (R167), held by register bank. -/
inductive Held where
  | load (addr : Word) (reply : Reply)
  | queue (code : Nat) (value : DWord)
  | tap (write : Bool) (t : Nat) (j : Nat) (data : Word)
deriving DecidableEq, Repr

/-- What Quince has beyond a Cobbler (R162–R167, R333). -/
structure Quince where
  ie : Bool
  pie : Bool
  exc : Bool
  lvl : Nat
  ctxs : List Ctx
  vbase : Word
  epc : Word
  cause : Cause
  eaddr : Word
  ipc1 : Word
  ipc2 : Word
  held : SMap Held
  /-- Stopped by a double trap (R165) or by a trap into the boot ROM (R323). -/
  stopped : Bool
  dbgHalted : Bool
  /-- The ROM has handed over to firmware at 0x0F00_0000 (R289). -/
  firmware : Bool
  /-- The debug port's last result: data, done, err (R333). -/
  dbgData : Word
  dbgDone : Bool
  dbgErr : Bool
deriving DecidableEq, Repr

/-! ### Tiles (chapters 02, 05, 06, 11, 12, 13) -/

/-- The supply of a tile: powered, queued or being cleared after power-up, or off (R346, R347). -/
inductive Power where
  | on
  | gating (retain : Bool)
  | gated
  | retain
  | queued (wasRetain : Bool)
  | restoring (wasRetain : Bool)
deriving DecidableEq, Repr

/-- The fabric of a tile: held before RELEASE_SR, with tokens placed but frozen, or live (R33). -/
inductive Fabric where
  | held
  | placed
  | live
deriving DecidableEq, Repr

/-- A port F request (R102): operation 0 READ, 1 WRITE, 2 AADD, 3 ASWP, 4–7 reserved. -/
structure FReq where
  op : Nat
  waddr : Nat
  ben : BitVec 4
  wdata : Word
deriving DecidableEq, Repr

/-- A port F response (R102). -/
structure FResp where
  rdata : Word
  err : Bool
  superseded : Bool
deriving DecidableEq, Repr

/-- The patrol scrub of a bank (R118). -/
structure Patrol where
  active : Bool
  next : Nat
  per : Nat
deriving DecidableEq, Repr

/-- One tile: the registers of its TILE block that are not the core's, and its supply and fabric. -/
structure Tile where
  haltIe : Bool
  retMode : Bool
  autostart : Bool
  tapEv : BitVec 16
  fEn : Bool
  collCnt : Nat
  bankCe : Nat
  localCe : Nat
  bankUe1s : Nat
  bankFenced : Bool
  ue : Bool
  scrubEn : Bool
  scrubPer : BitVec 2
  stallLimit : BitVec 16
  stallEn : Bool
  stallFence : Bool
  tripped : Bool
  stallLane : Nat
  drained : Nat
  tokRate : Nat
  tokCount : Nat
  evt : BitVec 16
  timerCount : BitVec 28
  timerPeriodic : Bool
  timerReload : BitVec 28
  steal : SMap Word
  stealNearest : Bool
  stealLast : Nat
  power : Power
  fabric : Fabric
  fenced : Bool
  /-- The clearing of R124 is in progress: the tile serves no access yet. -/
  clearing : Bool
  fReqs : List FReq
  /-- Requests that port P has accepted and not passed to their sub-banks, oldest first (R101). -/
  portP : List PAccess
  /-- The request that port P accepted last came from the tile's own Cobbler (R101). -/
  portOwn : Bool
  /-- Bit k: port P issued an access to sub-bank k in its last cycle (R101). -/
  portRest : BitVec 8
  fResps : List FResp
  /-- Responses of port F that are offered on the inward lanes. -/
  fOffered : Bool
  patrol : Patrol
  /-- Tap output registers that hold a word (R145), by tap. -/
  tapTx : SMap (BitVec 16)
deriving DecidableEq, Repr

/-! ### The fabric's wires (chapters 01–03) -/

/-- The rail pair of a lane (R9). -/
inductive Rail where
  | spacer
  | tok (v : Bool)
  | illegal
deriving DecidableEq, Repr

/-- The dynamic state of one element: what it offers at its output, the acknowledge it returns to
its inputs, and, for a buffer, whether its own output handshake is under way (R10, R32). -/
structure Node where
  out : Rail
  ack : Bool
  full : Bool
deriving DecidableEq, Repr

/-- Read and write turns of a memory group in an ordered mode (R42): which read cells have read in
this round, and whether the round's write has been made; and the write port's own handshake. -/
structure MemTurn where
  reads : BitVec 8
  wrote : Bool
deriving DecidableEq, Repr

/-- All elements, keyed by the node numbers of Machine/Fabric.lean. -/
structure Wires where
  nodes : SMap Node
  turns : SMap MemTurn
  /-- Acknowledges that PERT_BP holds back: port-lane node numbers (R384). -/
  bpHeld : List Nat
  /-- Handshakes seen in the present group of PERT_BP (R384). -/
  bpCount : Nat
  /-- TIME at which the last token window ended (R49). -/
  tokEnd : Nat
deriving DecidableEq, Repr

/-! ### Pacers (chapter 04) -/

/-- One pacer (R78–R98). `lead` and `offered` are the pacer's own view, which lags by the takes that it does not
see yet (R83). -/
structure Pacer where
  en : Bool
  ec : Nat
  bank : Bool
  deficitIe : Bool
  joinTile : BitVec 5
  joinCluster : BitVec 10
  govExcl : Bool
  inc : Word
  /-- Writes to PACE_INC that no edge has used yet, oldest first, each with the HK cycle from which an edge
  uses it (R87). -/
  nextInc : List (Word × Nat)
  /-- The same for PACE_CTRL.ec (R87). -/
  nextEc : List (Nat × Nat)
  acc : Nat
  accClr : Bool
  /-- Ticks that PERT_PACE delays, oldest first, each with the edges it still waits (R384). -/
  late : List Nat
  depth : Nat
  /-- A depth written that waits for the next tick (R93). -/
  nextDepth : Option Nat
  lead : Nat
  offered : Bool
  leadMax : Nat
  /-- Tokens issued that the join has not taken, the one on the lane included. -/
  issued : Nat
  /-- Takes not yet visible to the clocked side (R83). -/
  unseen : Nat
  count : Nat
  debt : Nat
  deficits : Nat
  deficit : Bool
  /-- A deficit event since the governor's last sample (R344). -/
  fresh : Bool
  debtOvf : Bool
  cfgRej : Bool
  /-- The region whose reload holds the pacer (R89). -/
  held : Option Nat
  /-- The join that an accepted change waits to move to (R87). -/
  joinPend : Option (BitVec 5 × BitVec 10)
deriving DecidableEq, Repr

/-! ### Lace (chapter 07) -/

/-- What a request asks of its home node (R141, R183). -/
inductive LaceOp where
  | push | pop | try | steal | take | wait | stat
deriving DecidableEq, Repr

/-- Where a request is (R173, R185). -/
inductive LacePhase where
  /-- Crossing the ring towards its home node, or at it when `route` is empty. -/
  | request
  /-- A waiter at the home node. -/
  | waiting
  /-- Its answer is crossing back, or has arrived when `route` is empty. -/
  | answer (code : Nat) (value : DWord) (src : Nat)
deriving DecidableEq, Repr

/-- One request at Lace. -/
structure LaceReq where
  op : LaceOp
  queue : Nat
  wide : Bool
  /-- An EVENT eyelet port asks (R182). -/
  eventPort : Bool
  /-- The port is an EVENT or NARROW or WIDE eyelet port, or the request is a core's. -/
  eyelet : Bool
  data : DWord
  rd : Nat
  rs : Nat
  ticks : Nat
  phase : LacePhase
  /-- Links still to cross (R185). -/
  route : List Nat
  /-- Links crossed, nearest last, for the way back. -/
  back : List Nat
  /-- Retries spent on the present hop (R186). -/
  retries : Nat
  failedCrc : Bool
  /-- PERT_LACE has forced one of the failures of the present hop (R356). -/
  forced : Bool
  /-- The tick boundaries left of a waiter's timeout while its answer is on its way (R187). -/
  due : Option Nat
  /-- QTAKE: the victim being tried, and those still to try (R178). -/
  victim : Option Nat
  left : List Nat
  /-- Tick boundaries that have passed since the request reached its home node (R174). -/
  aged : Nat
deriving DecidableEq, Repr

/-- A waiter in a queue's list, oldest first (R173); `ticks` is the number of tick boundaries left. -/
structure Waiter where
  caller : Nat
  queue : Nat
  isPush : Bool
  ticks : Option Nat
deriving DecidableEq, Repr

/-- An adoption (R188): the fenced engine and, once its turn has come, its adopter (128 is Quince). -/
structure Adoption where
  engine : Nat
  adopter : Option Nat
deriving DecidableEq, Repr

/-- When the hardware and a clear last changed a counter that follows R8. -/
structure Meet where
  /-- The HK cycle in which the hardware last changed it. -/
  hwAt : Option Nat
  /-- The HK cycle of the last clear, and the value before it. -/
  clr : Option (Nat × Nat)
deriving DecidableEq, Repr

/-- Lace: the registers of R190–R195, the descriptors, and what is under way at the nodes and on the ring. -/
structure Lace where
  hold : Bool
  reroute : Bool
  adoptEv : BitVec 4
  linkFail : BitVec 4
  /-- Descriptor SRAM by word: word `4n + i` is word `i` of descriptor `n` (R169). -/
  desc : SMap Word
  reqs : SMap LaceReq
  waiters : List Waiter
  adoptions : List Adoption
  tickDiv : BitVec 16
  /-- A divider written that takes effect at the next tick boundary (R192). -/
  nextDiv : Option (BitVec 16)
  minTicks : BitVec 4
  tickCount : Nat
  retryCnt : Nat
  retryLimit : BitVec 3
  descRej : Bool
  eyeFault : Bool
  entryUe : Bool
  errLink : Bool
  retryTimeout : Bool
  errQueue : Nat
  errCaller : Nat
  nops : SMap Nat
  nwaitMax : SMap Nat
  /-- Counters that a hardware action and a clear may change in one HK cycle: LACE_NOPS of node m at m,
  LACE_RETRY.count at 8 (R8, R193, R195). -/
  meets : SMap Meet
  /-- The callers whose requests have reached their home node and not been performed, in the order of arrival
  (R168). -/
  arrived : List Nat
  nirqPend : SMap (BitVec 16)
  nirqEn : SMap (BitVec 16)
deriving DecidableEq, Repr

/-! ### Seams and clocks (chapter 08) -/

/-- SEAM_STAT.state (R217), but for HOLD_E, which is RUN while the edge clock is stopped (R210). -/
inductive SeamState where
  | off | reset | run | faultHold
deriving DecidableEq, Repr

/-- One entry of a crossing and the edges of the clocked side that have seen it (R208). -/
structure SeamEntry where
  word : DWord
  age : Nat
deriving DecidableEq, Repr

structure Seam where
  cfg : Word
  pend : Word
  group : BitVec 4
  errIe : Bool
  tile : Nat
  tap : Nat
  edgeBase : Nat
  state : SeamState
  epochF : Bool
  epochE : Bool
  epochErr : Bool
  /-- The epochs have differed, and FAULT_HOLD follows (R212). -/
  holdPend : Bool
  /-- SEAM_GRP.grp_rst was written here and its group reset is not complete (R5, R219). -/
  grpRst : Bool
  overrun : Bool
  underrun : Bool
  miss : Bool
  cfgRej : Bool
  s3 : Bool
  xfers : Nat
  flows : Nat
  misses : Nat
  /-- Words accepted and not yet delivered, oldest first. -/
  fifo : List SeamEntry
  /-- Places that are free but not yet seen as free on the other side: ages in edges. -/
  freeing : List Nat
  /-- IN: the word on the taps is offered and not yet acknowledged. -/
  offered : Bool
  /-- Edges left to the next slot or transfer that the cadence allows (R207). -/
  cad : Nat
  /-- LOCKSTEP OUT: the word taken at a slot and the edges left until the pins show it (R207). -/
  inFlight : Option (DWord × Nat)
  /-- OUT: the word the pins show, once a word has been loaded (R235). -/
  shown : Option DWord
  /-- OUT: the number of edge pins whose drivers loaded words have turned on (R235). -/
  driven : Nat
  /-- The pins show a newly taken word this edge cycle, or the IN seam has room (STROBE, R205). -/
  strobe : Bool
  /-- A STROBE pin is driven: a reset of the seam has completed (R235). -/
  strobeOn : Bool
  srcCount : Nat
  dstCount : Nat
  /-- EVENT: source events since the last edge of the seam's clock (R207). -/
  srcFresh : Nat
  /-- EVENT IN: the part of the destination count that the taps offer (R214). -/
  offeredCount : Nat
  /-- EVENT IN with ev_edge = 1: the pin's level at the last edge (R214). -/
  lastLevel : Bool
deriving DecidableEq, Repr

/-- One edge clock: the divider and enable in force (R200, R224). -/
structure EdgeClock where
  div : BitVec 12
  en : Bool
deriving DecidableEq, Repr

/-- One phase-alignment loop (R225). -/
structure PhaseLoop where
  en : Bool
  lock : Bool
  trim : BitVec 6
  err : Byte
deriving DecidableEq, Repr

/-- The PLL settings n, post, frac_en and frac (R196). -/
structure Pll where
  n : Nat
  post : Nat
  fracEn : Bool
  frac : Nat
deriving DecidableEq, Repr

structure Clk where
  /-- The values held in CLK_ROOT and CLK_FRAC. -/
  held : Pll
  xinMode : Bool
  pllEn : Bool
  /-- The settings in force. -/
  now : Pll
  rootLock : Bool
  relocking : Bool
  /-- CLK_ROOT.relock: the relock that a write of 1 asked for is not complete (R5, R221). -/
  relockAct : Bool
  unlock : Bool
  cfgRej : Bool
  xinFail : Bool
  /-- XIN is not running (R199). -/
  xinStopped : Bool
  ecs : SMap EdgeClock
  phases : SMap PhaseLoop
  /-- Words 0–13 of DEVICE frame 30, which WAIT_LOCK applies (R197, R278). -/
  frame30 : Option Frame
deriving DecidableEq, Repr

/-! ### Pins (chapter 09) -/

/-- What the pad's driver puts out: `none` is off (R232). -/
abbrev Drive := Option Bool

/-- A held second PIN_CFG write and the cycle of a function switch (R239, R240). -/
structure Switch where
  /-- 0: no switch; 1: written, the first HK edge is awaited; 2, 3, 4: cycle 1, 2 or 3 is running. -/
  cycle : Nat
  cfg : Word
  next : Option Word
  /-- The switch ends a boundary-scan instruction: the function and its source stay (R250). -/
  scan : Bool
deriving DecidableEq, Repr

/-- An output entry of a pin seam (R215) and the edges that have seen it (R208). -/
structure PsEntry where
  rise : Bool
  fall : Bool
  en : Bool
  age : Nat
deriving DecidableEq, Repr

structure Pin where
  cfg : Word
  trig : BitVec 3
  dg : Byte
  pend : Bool
  laneEn : Bool
  tileEv : Bool
  evOvf : Bool
  psUnder : Bool
  outLatch : Bool
  oeLatch : Bool
  binding : BitVec 16
  sw : Switch
  /-- HK cycles for which the detector stays masked (R239). -/
  mask : Nat
  /-- The value the present source has offered: level and enable (R233, R247). -/
  srcLevel : Option Bool
  srcOe : Option Bool
  /-- What the driver puts on the ball, by the hold latch. -/
  drive : Drive
  /-- The pin follows rcfg because its region or tile is away (R248). -/
  contained : Bool
  /-- The region or tile is back, and the pin keeps its rcfg state until its source offers a value (R248). -/
  returning : Bool
  /-- The HK cycle in which a PINW last wrote the latches (R242). -/
  pinwAt : Option Nat
  /-- What the board drives on the ball, as last seen. -/
  board : Option Bool
  /-- The two synchroniser stages, the accepted level and the equal samples counted (R243). -/
  sync1 : Bool
  sync2 : Bool
  level : Bool
  same : Nat
  /-- The pin seam: output entries (rise, fall, enable), the input sample, epochs (R215). -/
  psOut : List PsEntry
  psIn : Option (Bool × Bool)
  psOffered : Bool
  psStarted : Bool
  psEpochF : Bool
  psEpochE : Bool
  psFault : Bool
  /-- The depth of the pin seam's synchroniser is 3 (R211, R215). -/
  psS3 : Bool
  /-- The level that the ball last had, for the bus keeper (R238). -/
  kept : Bool
  /-- The level that the core side last took in, which it keeps under boundary scan (R250). -/
  seen : Bool
deriving DecidableEq, Repr

structure PinBank where
  mask : Word
  maskH : BitVec 16
  evTile : BitVec 7
  evEn : Bool
  /-- The bank has no VCCIO (R247, R375). -/
  unpowered : Bool
  vccioWarn : Bool
  cfgRej : Bool
deriving DecidableEq, Repr

structure Pins where
  pins : SMap Pin
  banks : SMap PinBank
  /-- RELEASE_OUTPUTS has executed (R247). -/
  released : Bool
  /-- The level on the PULLSEL ball, which the pulls follow until RELEASE_OUTPUTS (R247). -/
  pullsel : Bool
deriving DecidableEq, Repr

/-! ### Configuration, loader, regions (chapters 10, 11) -/

/-- CFG_STAT.state (R293). -/
inductive LoaderState where
  | idle | boot | loadingFull | sequence | done | failed | loadingPartial
deriving DecidableEq, Repr

/-- Where an image comes from (R256, R258, R318). -/
inductive Source where
  | flash | jtag | memory
deriving DecidableEq, Repr

/-- A load under way, from HEAD to the verdict of END (R263–R274). -/
structure ImageLoad where
  source : Source
  partialImage : Bool
  golden : Bool
  /-- HEAD has been taken. -/
  head : Bool
  /-- AUTH must follow HEAD immediately (R266). -/
  authNext : Bool
  options : Byte
  region : Nat
  mask : TileMask
  frames : Nat
  length : Nat
  offset : Nat
  crc : Word
  written : Nat
  dict : SMap Frame
  regionsSeen : Bool
  frameSeen : Bool
  seqSeen : Bool
  sigrefSeen : Bool
  qsramCleared : Bool
  /-- The signed message so far, when an AUTH record was taken (R273). -/
  key : List Byte
  sig : List Byte
  msg : List Byte
  /-- The record at `offset` awaits a retry: retries spent so far (R282). -/
  retry : Option Nat
  /-- END has been taken and the AUTH verdict is awaited (R273). -/
  verdict : Bool
  /-- Partial load from memory: where the bytes lie (R318). -/
  base : Nat
  avail : Nat
  /-- The clearing of R306 is complete, so that the first byte may be read (R310). -/
  cleared : Bool
deriving DecidableEq, Repr

/-- The start-up step in progress (R287). -/
inductive SeqPhase where
  /-- The next step may begin. -/
  | ready
  | waitLock
  | placing
  | enabling
  | delay (hk : Nat)
  | waitPin (pin : Nat) (level : Bool) (limited : Bool)
  | regions (left : List Nat)
  | finished
deriving DecidableEq, Repr

/-- The states of a region (R304). -/
inductive RegionState where
  | empty | loading | held | running | aborted | fenced
deriving DecidableEq, Repr

structure Region where
  state : RegionState
  mask : TileMask
  loads : Byte
deriving DecidableEq, Repr

/-- The command of CFG_PCMD in progress (R321). -/
inductive RegionCmd where
  | load | release | clear
deriving DecidableEq, Repr

/-- A SIGREF entry (R271). -/
structure SigRef where
  test : Nat
  target : Nat
  sig : Word
deriving DecidableEq, Repr

/-- Why a boot stopped, or how far it has come (R289). -/
inductive BootStep where
  /-- Steps 1 and 2: reset has ended and the start-up self-test runs. -/
  | reset
  /-- Step 3: the boot table is to be read. -/
  | table
  /-- Step 3: VC_EN is high and VCORE has not yet arrived. -/
  | vcore
  /-- Step 5: a load is to start or runs. -/
  | load
  /-- Step 6: the image-chosen start-up tests. -/
  | tests
  /-- Step 7: the start-up sequence. -/
  | sequence
  /-- Step 8. -/
  | done
  /-- Stopped at STATUS 6 or 7. -/
  | stopped
  /-- A thermal trip holds the device in reset (R341). -/
  | thermal
  /-- VAON is below its threshold: power-on reset holds (R334). -/
  | off
deriving DecidableEq, Repr

/-- The valid boot table (R259). -/
structure BootTable where
  pmbus : Bool
  addr4 : Bool
  clk : Nat
  primary : Word
  golden : Word
  policy : Nat
  attempts : Nat
  pmAddr : BitVec 7
  vcoreMv : Nat
  wdogMs : BitVec 16
  retry : BitVec 4
deriving DecidableEq, Repr

/-- A read command on the flash balls (R256, R257, R259, R260). -/
structure FlashRead where
  /-- 0x6B or 0x6C, 0x03 or 0x13. -/
  cmd : Byte
  /-- The flash address: the image offset, or half of it in each of two flashes. -/
  addr : Nat
  /-- Address bytes, 3 or 4. -/
  addrBytes : Nat
  dummy : Nat
  /-- CF_CS1_N is low too. -/
  both : Bool
  /-- CF_SCK is ROOT / div. -/
  div : Nat
deriving DecidableEq, Repr

/-- The configuration block, the loader and the start-up sequence (chapters 10 and 11). -/
structure Cfg where
  boot : BootStep
  status : Nat
  doneBall : Bool
  state : LoaderState
  golden : Bool
  primaryFail : Bool
  authOk : Bool
  sessionLock : Bool
  pertOk : Bool
  goldenNext : Bool
  bootsel : BitVec 2
  pullsel : Bool
  tableOk : Bool
  backup : Bool
  pmbusOk : Bool
  table : Option BootTable
  /-- The read command that the flash was given last (R256, R257, R282). -/
  flash : Option FlashRead
  /-- Images still to try, in order: true is the golden image (R286). -/
  tries : List Bool
  err : Nat
  errInRetry : Bool
  errGolden : Bool
  errPartial : Bool
  errIsOffset : Bool
  errAddr : Word
  wdogMs : BitVec 16
  wdogEff : Nat
  retryLimit : BitVec 4
  retryCount : Nat
  psrc : Word
  plen : BitVec 28
  preg : BitVec 4
  pcmdSrc : Bool
  pcmdRej : Bool
  pcmdDoneIe : Bool
  pcmdDone : Bool
  /-- The commands of CFG_PCMD in progress, each with its region. -/
  cmds : List (RegionCmd × Nat)
  load : Option ImageLoad
  regions : SMap Region
  /-- Configuration memory by frame address: CLUSTER, SPINE and TILECTL frames (R275). -/
  frames : SMap Frame
  sigrefs : List SigRef
  steps : List Word
  seqIndex : Nat
  seqCode : Nat
  seqPhase : SeqPhase
  seqComplete : Bool
  pinTmo : Bool
  seqDone : BitVec 10
  hasQuince : Bool
  /-- A full image has passed its END verdict since reset (R322). -/
  loaded : Bool
  pacersStarted : Bool
  scrubEn : Bool
  scrubPeriod : BitVec 16
  scrubCe : Nat
  scrubUe : Nat
  scrubPasses : Byte
  /-- The frame the scrubber reads next, while a pass runs. -/
  scrubAt : Option Nat
  framesWritten : Nat
  jtagBuf : List Byte
  /-- The status byte loaded at the last Capture-DR of CFG_LOAD (R258). -/
  jtagStatus : Byte
  /-- Start-up tile tests still to run: tile and test id (R376). -/
  tests : List (Nat × Nat)
deriving DecidableEq, Repr

/-! ### Quince's chapter: interrupts, housekeeping, power (chapter 12) -/

structure Intc where
  level : SMap (BitVec 4)
  inService : List Nat
  /-- Sources acknowledged and not yet sampled again (R326). -/
  resample : List Nat
  en : SMap Bool
  vbase : BitVec 20
  thr : BitVec 4
  lastSrc : Nat
  lastLevel : Nat
deriving DecidableEq, Repr

structure Uart where
  tx : List Byte
  rx : List Byte
  shift : Option Byte
  lastRx : Byte
  rxOvf : Bool
  frameErr : Bool
  parityErr : Bool
  ctrl : Word
  baud : BitVec 16
deriving DecidableEq, Repr

structure Spi where
  tx : List Byte
  rx : List Byte
  shift : Option Byte
  rxOvf : Bool
  ctrl : Word
deriving DecidableEq, Repr

/-- The actions of an I2C_CMD write that have not been carried out yet (R330). -/
structure I2cPend where
  start : Bool
  stop : Bool
  write : Bool
  read : Bool
deriving DecidableEq, Repr

structure I2c where
  data : Byte
  pend : I2cPend
  nack : Bool
  busy : Bool
  ackRx : Bool
  arbLost : Bool
  done : Bool
  ctrl : Word
deriving DecidableEq, Repr

structure Timer where
  en : Bool
  periodic : Bool
  ie : Bool
  load : Word
  /-- A written value that sets the count at the next HK edge (R331). -/
  nextCount : Option Word
  count : Word
  expired : Bool
deriving DecidableEq, Repr

structure Qwdog where
  en : Bool
  action : BitVec 2
  limit : BitVec 16
  /-- The limit with which the count in progress was started (R332). -/
  running : Nat
  remaining : Nat
  /-- XIN cycles, in units of 2^-20, since the last whole millisecond of the count. -/
  frac : Nat
  early : Bool
  fired : Bool
deriving DecidableEq, Repr

structure Hk where
  uarts : SMap Uart
  spis : SMap Spi
  i2cs : SMap I2c
  timers : SMap Timer
  qwdog : Qwdog
deriving DecidableEq, Repr

/-- A PMBus transaction of the governor (R337): to which address, with or without PEC, the command code, and
the word that it writes, if it writes one. -/
structure PmTx where
  addr : BitVec 7
  pec : Bool
  code : Byte
  data : Option (BitVec 16)
deriving DecidableEq, Repr

structure Pwr where
  vcEn : Bool
  mode : BitVec 2
  /-- A mode write that is applied at the next window end (R342). -/
  nextMode : Option (BitVec 2)
  statIe : Bool
  win : BitVec 4
  upStep : BitVec 4
  hold : BitVec 4
  pmbusOk : Bool
  settled : Bool
  budgetOvr : Bool
  therm : Bool
  vwarn : Bool
  auxwarn : Bool
  pmAlert : Bool
  pmErr : Bool
  cfgRej : Bool
  gateRej : Bool
  lastReset : Nat
  pmStatus : BitVec 16
  budget : Nat
  vset : Nat
  target : Nat
  meas : Nat
  pnow : Nat
  pnowMax : Nat
  vmin : Nat
  vmax : Nat
  warn : Nat
  warnDg : Nat
  trip : Nat
  tj : Int
  tjMax : Int
  /-- The last reading was at or above 110 °C (R341). -/
  hot : Bool
  speedPs : Nat
  speedQ : Nat
  pmAddr : BitVec 7
  pec : Bool
  voutN : BitVec 5
  fast : Bool
  tlim : Nat
  hyst : Nat
  /-- tj has been above tlim and not yet at or below tlim − hyst: the target cannot rise (R342). -/
  thermHold : Bool
  /-- The VCORE warning comparator is armed (R339). -/
  warnArmed : Bool
  /-- Windows for which lowering stays suspended after a PACE raise (R344). -/
  suspend : Nat
  /-- Every sample of this window showed lead 0 and no deficit (R344). -/
  calm : Bool
  /-- A VOUT_COMMAND under way: the target sent and whether it is the repeat (R337). -/
  vout : Option (Nat × Bool)
  /-- The PMBus transactions of the last exchange, in order; a repeat is not listed again (R337). -/
  pmSent : List PmTx
  /-- The VAUX warning comparator is armed (R339). -/
  auxArmed : Bool
  /-- The estimates of this window's samples, summed, in units of 0.1 nW, and their number (R345). -/
  estSum : Nat
  estN : Nat
  /-- Each core's count of retired instructions at the last sample (R345). -/
  instrAt : SMap Nat
  /-- Sub-bank accesses and Lace node operations since the last sample (R345). -/
  accesses : Nat
  nodeOps : Nat
  /-- Tiles queued for power-up, in order (R347). -/
  powerQueue : List Nat
deriving DecidableEq, Repr

/-! ### Faults, health, Awl, PERT (chapter 13) -/

/-- A report on its way to the fault manager: the fields of a record that its origin gives (R355, R356). -/
structure Report where
  /-- TIME_L at detection. -/
  time : Word
  code : Nat
  inRetry : Bool
  retry : Bool
  timeout : Bool
  isPartial : Bool
  golden : Bool
  injected : Bool
  action : Nat
  tile : Nat
  dev : Bool
  index : Nat
  cell : Nat
  cause : Nat
  detail : Word
deriving DecidableEq, Repr

/-- The four words of a fault record (R356). -/
structure Record where
  w0 : Word
  w1 : Word
  w2 : Word
  w3 : Word
deriving DecidableEq, Repr

structure Flt where
  inbox : List Report
  log : SMap Record
  head : Nat
  wrapped : Bool
  /-- Records written since the last clear of FLT_STAT.new, up to 64 (R357). -/
  fresh : Nat
  count : Nat
  seq : Byte
  new : Bool
  lost : Bool
  tileFence : Bool
  engFence : Bool
  trapFence : Bool
  wdogFence : Bool
  adoptFixed : Bool
  adoptEng : Byte
  ewdog : BitVec 16
  /-- Fences asked for and not yet carried out; the flag tells a fault from a command (R366). -/
  tileReq : List (Nat × Bool)
  engReq : List (Nat × Bool)
deriving DecidableEq, Repr

structure Dev where
  svcForce : Bool
  dbgDis : Bool
  svcTiles : Bool
  svcCfg : Bool
  svcAnalog : Bool
  svcBank : Bool
  svcBoot : Bool
  tilesTotal : Nat
  cfgUeTotal : Nat
  enginesTotal : Nat
  tileThr : Byte
  cfgThr : Byte
  ewBlocks : BitVec 12
  ewTiles : Bool
deriving DecidableEq, Repr

/-- A run of an Awl test: what has been folded into its signature (R372). -/
structure AwlRun where
  test : Nat
  target : Nat
  planned : Nat
  /-- Steps completed. -/
  steps : Nat
  /-- The check words of steps 0 to `folded - 1` are in `crc`; `ahead` holds the verdicts of completed steps
  beyond them (R372). -/
  folded : Nat
  ahead : SMap Nat
  /-- The first step that has not been tried, and the aborted steps that wait to run again, oldest first (R378). -/
  next : Nat
  again : List Nat
  crc : Word
  cut : Bool
deriving DecidableEq, Repr

structure Bist where
  doneIe : Bool
  bgIe : Bool
  refUser : Bool
  test : Byte
  target : Byte
  state : Nat
  complete : Bool
  isMatch : Bool
  result : Nat
  done : Bool
  bgFail : Bool
  bgTest : Nat
  bgTarget : Nat
  rej : Bool
  sig : Word
  ref : Word
  steps : Nat
  planned : Nat
  policyLocal : Bool
  policyAnalog : Bool
  bgEn : BitVec 4
  memPeriod : Byte
  analogPeriod : Byte
  log : SMap (BitVec 18)
  demand : Option AwlRun
  /-- Start-up tile tests by tile, background passes by the keys of Machine/Awl.lean. -/
  startup : SMap AwlRun
  background : SMap AwlRun
deriving DecidableEq, Repr

structure Pert where
  /-- The key sequence: 0 locked, 1 locked and 0x5EA1 written last, 2 unlocked, 3 unlocked and 0x5EA1
  written last (R383). -/
  key : Nat
  en : BitVec 7
  delay : Word
  bp : Word
  seam : Word
  lace : Word
  ecc : Word
  pace : Word
  /-- CRC errors still to force on a link (R384). -/
  laceArmed : Option (Nat × Nat)
  /-- Words that were poisoned last by an error in which PERT_ECC had a part (R356, R383). -/
  poisoned : List Nat
deriving DecidableEq, Repr

/-- The instruction selected in the TAP (R249). -/
inductive TapInstr where
  | extest | samplePreload | idcode | highz | clamp | cfgLoad | debug | bypass
deriving DecidableEq, Repr

structure Jtag where
  ir : TapInstr
  boundary : BitVec 1788
  /-- What the last Capture-DR loaded into the selected data register, bit 0 nearest TDO (R249, R258, R333). -/
  capture : BitVec 1788
deriving DecidableEq, Repr

/-! ### The whole device -/

/-- The NQ128. `pending` is the queue of commands that wait, first in, first out. `freeCtr` and
`memEpoch` are the model's own: the number of free values drawn so far (log entry 7) and the number
of writes to fetchable memory so far (log entry 10). -/
structure State where
  pending : List Instr
  time : Nat
  freeCtr : Nat
  memEpoch : Nat
  mem : Memory
  cores : SMap Core
  quince : Quince
  tiles : SMap Tile
  wires : Wires
  pacers : SMap Pacer
  lace : Lace
  /-- The cores that wait at taps, in the order in which they came (R146). -/
  tapQueue : List Nat
  seams : SMap Seam
  clk : Clk
  pins : Pins
  cfg : Cfg
  intc : Intc
  hk : Hk
  pwr : Pwr
  flt : Flt
  dev : Dev
  bist : Bist
  pert : Pert
  jtag : Jtag
deriving DecidableEq, Repr

/-! ### Reset values (R6, R404)

The value of every field when power-on reset ends, before the boot ROM runs. A register whose reset
value the manual does not give is zero, and its log entry says so (log entry 15). -/

/-- A core after reset: Cobblers are HELD (R126); Quince runs from the boot ROM (R126). -/
def Core.init (c : Nat) : Core where
  state := if c = 128 then .running else .held
  deferred := false
  cause := .none
  epc := 0
  epcAt := none
  eaddr := 0
  pc := if c = 128 then 0x0FFF8000#32 else 0
  regs := []
  stores := []
  load := none
  storeErr := none
  wait := none
  haltPend := false
  stepping := false
  instret := 0
  instretLatch := 0
  timeLatch := 0
  paceLatch := []
  scratch0 := 0
  scratch1 := 0
  fetchEpoch := 0

/-- Quince's own state after reset (R126, R163). -/
def Quince.init : Quince where
  ie := false
  pie := false
  exc := false
  lvl := 0
  ctxs := []
  vbase := 0x0FFF8000#32
  epc := 0
  cause := .none
  eaddr := 0
  ipc1 := 0
  ipc2 := 0
  held := []
  stopped := false
  dbgHalted := false
  firmware := false
  dbgData := 0
  dbgDone := false
  dbgErr := false

/-- A tile after reset: TILE_ECC is 0x0040_0000, every other register of R404 zero; no welt is
opened and no token placed (R33), and no tile is gated (R352). -/
def Tile.init (_t : Nat) : Tile where
  haltIe := false
  retMode := false
  autostart := false
  tapEv := 0
  fEn := false
  collCnt := 0
  bankCe := 0
  localCe := 0
  bankUe1s := 0
  bankFenced := false
  ue := false
  scrubEn := true
  scrubPer := 0
  stallLimit := 0
  stallEn := false
  stallFence := false
  tripped := false
  stallLane := 0
  drained := 0
  tokRate := 0
  tokCount := 0
  evt := 0
  timerCount := 0
  timerPeriodic := false
  timerReload := 0
  steal := []
  stealNearest := false
  stealLast := 0
  power := .on
  fabric := .held
  fenced := false
  clearing := false
  fReqs := []
  portP := []
  portOwn := false
  portRest := 0
  fResps := []
  fOffered := false
  patrol := { active := false, next := 0, per := 0 }
  tapTx := []

/-- A node with no token (R33). -/
def Node.init (_n : Nat) : Node where
  out := .spacer
  ack := false
  full := false

def MemTurn.init (_n : Nat) : MemTurn where
  reads := 0
  wrote := false

/-- A pacer after reset: every register zero (R91–R96). -/
def Pacer.init (_n : Nat) : Pacer where
  en := false
  ec := 0
  bank := false
  deficitIe := false
  joinTile := 0
  joinCluster := 0
  govExcl := false
  inc := 0
  nextInc := []
  nextEc := []
  acc := 0
  accClr := false
  late := []
  depth := 0
  nextDepth := none
  lead := 0
  offered := false
  leadMax := 0
  issued := 0
  unseen := 0
  count := 0
  debt := 0
  deficits := 0
  deficit := false
  fresh := false
  debtOvf := false
  cfgRej := false
  held := none
  joinPend := none

/-- The reset descriptor words: word 1 of descriptor `n` is `(n div 128) << 13`, all others zero (R171). -/
def Lace.descInit (k : Nat) : Word :=
  if k % 4 = 1 then BitVec.ofNat 32 ((k / 4 / 128) <<< 13) else 0

/-- A counter that nothing has changed. -/
def Meet.init (_k : Nat) : Meet where
  hwAt := none
  clr := none

/-- Lace after reset (R171, R190–R195). -/
def Lace.init : Lace where
  hold := false
  reroute := true
  adoptEv := 0xC
  linkFail := 0
  desc := []
  reqs := []
  waiters := []
  adoptions := []
  tickDiv := 0x64
  nextDiv := none
  minTicks := 2
  tickCount := 0
  retryCnt := 0
  retryLimit := 4
  descRej := false
  eyeFault := false
  entryUe := false
  errLink := false
  retryTimeout := false
  errQueue := 0
  errCaller := 0
  nops := []
  nwaitMax := []
  meets := []
  arrived := []
  nirqPend := []
  nirqEn := []

/-- A request that no caller has made. -/
def LaceReq.init (_n : Nat) : LaceReq where
  op := .stat
  queue := 0
  wide := false
  eventPort := false
  eyelet := false
  data := 0
  rd := 0
  rs := 0
  ticks := 0
  phase := .request
  route := []
  back := []
  retries := 0
  failedCrc := false
  forced := false
  due := none
  victim := none
  left := []
  aged := 0

/-- A seam after reset (R212, R217): OFF, epochs equal, nothing held. -/
def Seam.init (_s : Nat) : Seam where
  cfg := 0
  pend := 0
  group := 0
  errIe := false
  tile := 0
  tap := 0
  edgeBase := 0
  state := .off
  epochF := false
  epochE := false
  epochErr := false
  holdPend := false
  grpRst := false
  overrun := false
  underrun := false
  miss := false
  cfgRej := false
  s3 := false
  xfers := 0
  flows := 0
  misses := 0
  fifo := []
  freeing := []
  offered := false
  cad := 0
  inFlight := none
  shown := none
  driven := 0
  strobe := false
  strobeOn := false
  srcCount := 0
  dstCount := 0
  srcFresh := 0
  offeredCount := 0
  lastLevel := false

/-- The edge clocks after reset: EC7 divides by 12 and runs, the others are off (R224). -/
def EdgeClock.init (n : Nat) : EdgeClock where
  div := if n = 7 then 0x00B else 0
  en := n = 7

def PhaseLoop.init (_q : Nat) : PhaseLoop where
  en := true
  lock := false
  trim := 0
  err := 0

/-- The PLL's reset settings: n = 96, no fraction, post 2 (R197, R221). -/
def Pll.init : Pll where
  n := 96
  post := 0
  fracEn := false
  frac := 0

/-- The clocks after reset: the PLL starts to lock to its reset settings (R197). -/
def Clk.init : Clk where
  held := Pll.init
  xinMode := false
  pllEn := true
  now := Pll.init
  rootLock := false
  relocking := false
  relockAct := false
  unlock := false
  cfgRej := false
  xinFail := false
  xinStopped := false
  ecs := []
  phases := []
  frame30 := none

/-- A pin after reset (R247, R251, R252, R254): driver off. -/
def Pin.init (_p : Nat) : Pin where
  cfg := 0
  trig := 0
  dg := 0
  pend := false
  laneEn := false
  tileEv := false
  evOvf := false
  psUnder := false
  outLatch := false
  oeLatch := false
  binding := 0
  sw := { cycle := 0, cfg := 0, next := none, scan := false }
  mask := 0
  srcLevel := none
  srcOe := none
  drive := none
  contained := false
  returning := false
  pinwAt := none
  board := none
  sync1 := false
  sync2 := false
  level := false
  same := 0
  psOut := []
  psIn := none
  psOffered := false
  psStarted := false
  psEpochF := false
  psEpochE := false
  psFault := false
  psS3 := false
  kept := false
  seen := false

def PinBank.init (_b : Nat) : PinBank where
  mask := 0
  maskH := 0
  evTile := 0
  evEn := false
  unpowered := false
  vccioWarn := false
  cfgRej := false

def Pins.init : Pins where
  pins := []
  banks := []
  released := false
  pullsel := false

def Region.init (_r : Nat) : Region where
  state := .empty
  mask := 0
  loads := 0

/-- The CFG block after reset (R293–R301, R318–R322). -/
def Cfg.init : Cfg where
  boot := .reset
  status := 0
  doneBall := false
  state := .idle
  golden := false
  primaryFail := false
  authOk := false
  sessionLock := false
  pertOk := false
  goldenNext := false
  bootsel := 0
  pullsel := false
  tableOk := false
  backup := false
  pmbusOk := false
  table := none
  flash := none
  tries := []
  err := 0
  errInRetry := false
  errGolden := false
  errPartial := false
  errIsOffset := false
  errAddr := 0
  wdogMs := 0x0FA0
  wdogEff := 0
  retryLimit := 3
  retryCount := 0
  psrc := 0
  plen := 0
  preg := 0
  pcmdSrc := false
  pcmdRej := false
  pcmdDoneIe := false
  pcmdDone := false
  cmds := []
  load := none
  regions := []
  frames := []
  sigrefs := []
  steps := []
  seqIndex := 0
  seqCode := 0
  seqPhase := .ready
  seqComplete := false
  pinTmo := false
  seqDone := 0
  hasQuince := false
  loaded := false
  pacersStarted := false
  scrubEn := false
  scrubPeriod := 0x64
  scrubCe := 0
  scrubUe := 0
  scrubPasses := 0
  scrubAt := none
  framesWritten := 0
  jtagBuf := []
  jtagStatus := 0
  tests := []

/-- The interrupt controller after reset (R327). -/
def Intc.init : Intc where
  level := []
  inService := []
  resample := []
  en := []
  vbase := 0x0FFFF
  thr := 0
  lastSrc := 0
  lastLevel := 0

def Uart.init (_n : Nat) : Uart where
  tx := []
  rx := []
  shift := none
  lastRx := 0
  rxOvf := false
  frameErr := false
  parityErr := false
  ctrl := 0x100
  baud := 0x35

def Spi.init (_n : Nat) : Spi where
  tx := []
  rx := []
  shift := none
  rxOvf := false
  ctrl := 0x400

def I2c.init (_n : Nat) : I2c where
  data := 0
  pend := { start := false, stop := false, write := false, read := false }
  nack := false
  busy := false
  ackRx := false
  arbLost := false
  done := false
  ctrl := 0xF90000

def Timer.init (_n : Nat) : Timer where
  en := false
  periodic := false
  ie := false
  load := 0
  nextCount := none
  count := 0
  expired := false

/-- QWDOG after reset: off, limit 1000 ms (R332). -/
def Qwdog.init : Qwdog where
  en := false
  action := 0
  limit := 0x03E8
  running := 0
  remaining := 0
  frac := 0
  early := false
  fired := false

def Hk.init : Hk where
  uarts := []
  spis := []
  i2cs := []
  timers := []
  qwdog := Qwdog.init

/-- The PWR block after reset (R350–R352, R404). -/
def Pwr.init : Pwr where
  vcEn := false
  mode := 0
  nextMode := none
  statIe := false
  win := 0
  upStep := 5
  hold := 8
  pmbusOk := false
  settled := false
  budgetOvr := false
  therm := false
  vwarn := false
  auxwarn := false
  pmAlert := false
  pmErr := false
  cfgRej := false
  gateRej := false
  lastReset := 0
  pmStatus := 0
  budget := 0xFA0
  vset := 0x352
  target := 0
  meas := 0
  pnow := 0
  pnowMax := 0
  vmin := 0x226
  vmax := 0x3B6
  warn := 0x208
  warnDg := 0x14
  trip := 0x1CC
  tj := 0
  tjMax := 0
  hot := false
  speedPs := 0
  speedQ := 0
  pmAddr := 0
  pec := false
  voutN := 0
  fast := true
  tlim := 0x5F
  hyst := 5
  thermHold := false
  warnArmed := false
  suspend := 0
  calm := true
  vout := none
  pmSent := []
  auxArmed := true
  estSum := 0
  estN := 0
  instrAt := []
  accesses := 0
  nodeOps := 0
  powerQueue := []

/-- The fault manager at power-on reset (R369–R371). -/
def Flt.init : Flt where
  inbox := []
  log := []
  head := 0
  wrapped := false
  fresh := 0
  count := 0
  seq := 0
  new := false
  lost := false
  tileFence := false
  engFence := false
  trapFence := false
  wdogFence := true
  adoptFixed := false
  adoptEng := 0
  ewdog := 8
  tileReq := []
  engReq := []

/-- The DEV registers after power-on reset (R367, R368, R353, R405). -/
def Dev.init : Dev where
  svcForce := false
  dbgDis := false
  svcTiles := false
  svcCfg := false
  svcAnalog := false
  svcBank := false
  svcBoot := false
  tilesTotal := 0
  cfgUeTotal := 0
  enginesTotal := 0
  tileThr := 1
  cfgThr := 1
  ewBlocks := 0
  ewTiles := false

/-- Awl after reset (R382). -/
def Bist.init : Bist where
  doneIe := false
  bgIe := false
  refUser := false
  test := 0
  target := 0
  state := 0
  complete := false
  isMatch := false
  result := 0
  done := false
  bgFail := false
  bgTest := 0
  bgTarget := 0
  rej := false
  sig := 0
  ref := 0
  steps := 0
  planned := 0
  policyLocal := false
  policyAnalog := false
  bgEn := 0
  memPeriod := 0x3C
  analogPeriod := 0x0A
  log := []
  demand := none
  startup := []
  background := []

def Pert.init : Pert where
  key := 0
  en := 0
  delay := 0
  bp := 0
  seam := 0
  lace := 0
  ecc := 0
  pace := 0
  laceArmed := none
  poisoned := []

/-- The TAP after Test-Logic-Reset: IDCODE is selected (R249). -/
def Jtag.init : Jtag where
  ir := .idcode
  boundary := 0
  capture := 0

/-- The device when power-on reset ends, before the boot ROM runs (R6). BOOTSEL and PULLSEL are
sampled then (R256); this state shows both low (log entry 15), and the reset commands carry them. -/
def State.reset : State where
  pending := []
  time := 0
  freeCtr := 0
  memEpoch := 0
  mem := { cells := [], ecc := [] }
  cores := []
  quince := Quince.init
  tiles := []
  wires := { nodes := [], turns := [], bpHeld := [], bpCount := 0, tokEnd := 0 }
  pacers := []
  lace := Lace.init
  tapQueue := []
  seams := []
  clk := Clk.init
  pins := Pins.init
  cfg := Cfg.init
  intc := Intc.init
  hk := Hk.init
  pwr := Pwr.init
  flt := Flt.init
  dev := Dev.init
  bist := Bist.init
  pert := Pert.init
  jtag := Jtag.init

/-! ### Reasons to stop -/

/-- Stops with no effect given by the manual: there are none, for the manual gives every command an effect. -/
inductive Fault where
deriving DecidableEq, Repr

/-- A command with no meaning in the model. -/
inductive Refusal where
  /-- Raised by the dispatch alone, for a row that has no meaning yet. Safe. -/
  | notModelled (mnemonic : String)
deriving DecidableEq, Repr

end Sys2Proof.Machine
end

