-- ==== Sys2Proof/Decode.lean ====
section
/-! DEFINITION. Words as commands. The manual gives the device no command words: every row of
spec/opcode_table.json has an empty list of fields, and a command is an event, not an encoding. The
instruction words of the Cobblers and of Quince are data in memory; Machine/Operands.lean decodes them. -/

namespace Sys2Proof

/-- The command that a word of `nbits` bits spells: none, since no row of the table gives bits. -/
def decodeTableWord (_nbits _w : Nat) : Option Instr := none

/-- The debug command that a 68-bit data register holds at Update-DR, bit 0 nearest TDO: data in [31:0], an
address or a register number in [63:32], the command in [67:64] (R333). -/
def debugCommand (w : BitVec 68) : Instr :=
  let data : Word := w.extractLsb' 0 32
  let addr : Word := w.extractLsb' 32 32
  let cmd : BitVec 4 := w.extractLsb' 64 4
  if cmd = 0 then .debugStatus
  else if cmd = 1 then .debugHalt
  else if cmd = 2 then .debugResume
  else if cmd = 3 then .debugStep
  else if cmd = 4 then .debugReadWord addr
  else if cmd = 5 then .debugWriteWord addr data
  else if cmd = 6 then .debugReadRegister addr
  else if cmd = 7 then .debugWriteRegister addr data
  else .debugReservedCommand cmd

end Sys2Proof
end

