-- ==== Sys2Proof/Machine/Bits.lean ====
section
/-! DEFINITION. Bit fields, sign extension, byte order and CRC-32C: the helpers that the registers,
the instruction formats and the image share (R21, R127, R262). -/

namespace Sys2Proof.Machine

/-- The field of `len` bits whose lowest bit is bit `lo`. -/
def fld {n : Nat} (w : BitVec n) (lo len : Nat) : Nat := (w.toNat >>> lo) % 2 ^ len

/-- Bit `i`. -/
def bitOf {n : Nat} (w : BitVec n) (i : Nat) : Bool := w.getLsbD i

/-- 1 for true. -/
def b2n (b : Bool) : Nat := if b then 1 else 0

/-- A Boolean placed at bit `i`. -/
def atBit (b : Bool) (i : Nat) : Nat := if b then 2 ^ i else 0

/-- The word whose value is `v` modulo 2^32. -/
def word (v : Nat) : Word := BitVec.ofNat 32 v

/-- Two's complement value of a field of `len` bits, extended to 32 bits (R127). -/
def sext (len v : Nat) : Word :=
  if v < 2 ^ (len - 1) then word v else word (v + 2 ^ 32 - 2 ^ len)

/-- `v` limited to `m` (saturating counters). -/
def sat (m v : Nat) : Nat := if m < v then m else v

/-- The word with the bits of `mask` taken from `new` and the others from `old`. -/
def merge (old new mask : Word) : Word := (old &&& ~~~mask) ||| (new &&& mask)

/-- Byte `i` of a word, byte 0 in bits [7:0] (R21). -/
def byteOf (w : Word) (i : Nat) : Byte := BitVec.ofNat 8 (w.toNat >>> (8 * i))

/-- The word of four bytes, the first at the lowest address (R21). -/
def wordOfBytes (b0 b1 b2 b3 : Byte) : Word :=
  word (b0.toNat + b1.toNat * 2 ^ 8 + b2.toNat * 2 ^ 16 + b3.toNat * 2 ^ 24)

/-- The little-endian number that a list of bytes holds (R262). -/
def leNat : List Byte → Nat
  | [] => 0
  | b :: r => b.toNat + 256 * leNat r

/-- `len` bytes from offset `o` of a list. -/
def slice (l : List Byte) (o len : Nat) : List Byte := (l.drop o).take len

/-- The little-endian field of `len` bytes at offset `o` (R262). -/
def le (l : List Byte) (o len : Nat) : Nat := leNat (slice l o len)

/-- The 256 bytes of a frame as one number: byte `j` holds bits `[8j + 7 : 8j]` (R276). -/
def frameOfBytes (l : List Byte) : Frame := BitVec.ofNat 2048 (leNat l)

/-- One bit of CRC-32C in reflected order, polynomial 0x1EDC_6F41 (R262). -/
def crcBit (c : Nat) : Nat :=
  if c % 2 = 1 then (c >>> 1) ^^^ 0x82F63B78 else c >>> 1

/-- One byte folded into a running CRC-32C. -/
def crcByte (c : Nat) (b : Byte) : Nat :=
  crcBit (crcBit (crcBit (crcBit (crcBit (crcBit (crcBit (crcBit (c ^^^ b.toNat))))))))

/-- A running CRC-32C over more bytes; it starts at 0xFFFF_FFFF (R262). -/
def crcRun : Nat → List Byte → Nat
  | c, [] => c
  | c, b :: r => crcRun (crcByte c b) r

/-- The finished CRC-32C of a byte string (R262). -/
def crc32c (l : List Byte) : Word := word (crcRun 0xFFFFFFFF l ^^^ 0xFFFFFFFF)

/-- The number of 1 bits of the lowest `n` bits of `v`. -/
def popcount : Nat → Nat → Nat
  | 0, _ => 0
  | n + 1, v => v % 2 + popcount n (v / 2)

/-- The number of leading zeros of a 32-bit value, given how many bits are left to look at. -/
def leadingZeros : Nat → Nat → Nat
  | 0, _ => 0
  | n + 1, v => if v.testBit n then 0 else 1 + leadingZeros n v

end Sys2Proof.Machine
end

