-- ==== Sys2Proof/Machine/Maps.lean ====
section
/-! DEFINITION. Sparse tables: a list of (number, value) pairs, and a default by number for every
number that is not listed. Written tables stay in one canonical form: numbers strictly rising and no
pair that holds its number's default, so that equal tables are equal lists. -/

namespace Sys2Proof.Machine.SMap

variable {α : Type}

/-- The value at `k`: the first pair that names it, else the default. -/
def read (d : Nat → α) : List (Nat × α) → Nat → α
  | [], k => d k
  | (i, v) :: r, k => if i = k then v else read d r k

/-- The table without any pair for `k`. -/
def erase : List (Nat × α) → Nat → List (Nat × α)
  | [], _ => []
  | (i, v) :: r, k => if i = k then erase r k else (i, v) :: erase r k

/-- The pair `(k, v)` put in its place by number. -/
def insert : List (Nat × α) → Nat → α → List (Nat × α)
  | [], k, v => [(k, v)]
  | (i, w) :: r, k, v => if k < i then (k, v) :: (i, w) :: r else (i, w) :: insert r k v

/-- The table with `v` at `k`, in canonical form. -/
def write [DecidableEq α] (d : Nat → α) (m : List (Nat × α)) (k : Nat) (v : α) : List (Nat × α) :=
  if v = d k then erase m k else insert (erase m k) k v

/-- The table whose value at each number is `f` of the old one; `f` keeps the defaults. -/
def mapVals [DecidableEq α] (d : Nat → α) (f : Nat → α → α) (m : List (Nat × α)) : List (Nat × α) :=
  (m.map (fun p => (p.1, f p.1 p.2))).filter (fun p => p.2 ≠ d p.1)

/-- The canonical form: every number is above `lo`, numbers rise, and no pair holds its default. -/
def wfFrom [DecidableEq α] (d : Nat → α) : Nat → List (Nat × α) → Bool
  | _, [] => true
  | lo, (i, v) :: r => decide (lo ≤ i) && decide (v ≠ d i) && wfFrom d (i + 1) r

/-- The canonical form of a table. -/
def wf [DecidableEq α] (d : Nat → α) (m : List (Nat × α)) : Bool := wfFrom d 0 m

/-- Numbers rise from `lo` on: the form of a table whose unlisted numbers hold nothing. -/
def rises : Nat → List (Nat × α) → Bool
  | _, [] => true
  | lo, (i, _) :: r => decide (lo ≤ i) && rises (i + 1) r

/-- The numbers that a table lists. -/
def keys (m : List (Nat × α)) : List Nat := m.map (·.1)

end Sys2Proof.Machine.SMap
end

