-- ==== Sys2Proof/Machine/Access.lean ====
section
/-! DEFINITION. One reader, one writer and one updater for every numbered part of the state. -/

namespace Sys2Proof.Machine

/-- The canonical form of memory: addresses rise, no listed byte is the 0 that an unlisted address reads
as, and the code table's word numbers rise. -/
def Memory.wf (m : Memory) : Bool := SMap.wf (fun _ => (0 : Byte)) m.cells && SMap.rises 0 m.ecc

/-- The state of core `c`: Cobblers 0–127, Quince 128. -/
def State.core (s : State) (k : Nat) : Core := SMap.read Core.init s.cores k

/-- `core` `k` replaced. -/
def State.setCore (s : State) (k : Nat) (v : Core) : State :=
  { s with cores := SMap.write Core.init s.cores k v }

/-- `core` `k` updated. -/
def State.modCore (s : State) (k : Nat) (f : Core → Core) : State := s.setCore k (f (s.core k))

/-- The state of tile `k`. -/
def State.tile (s : State) (k : Nat) : Tile := SMap.read Tile.init s.tiles k

/-- `tile` `k` replaced. -/
def State.setTile (s : State) (k : Nat) (v : Tile) : State :=
  { s with tiles := SMap.write Tile.init s.tiles k v }

/-- `tile` `k` updated. -/
def State.modTile (s : State) (k : Nat) (f : Tile → Tile) : State := s.setTile k (f (s.tile k))

/-- The state of pacer `k`. -/
def State.pacer (s : State) (k : Nat) : Pacer := SMap.read Pacer.init s.pacers k

/-- `pacer` `k` replaced. -/
def State.setPacer (s : State) (k : Nat) (v : Pacer) : State :=
  { s with pacers := SMap.write Pacer.init s.pacers k v }

/-- `pacer` `k` updated. -/
def State.modPacer (s : State) (k : Nat) (f : Pacer → Pacer) : State := s.setPacer k (f (s.pacer k))

/-- The state of seam `k`. -/
def State.seam (s : State) (k : Nat) : Seam := SMap.read Seam.init s.seams k

/-- `seam` `k` replaced. -/
def State.setSeam (s : State) (k : Nat) (v : Seam) : State :=
  { s with seams := SMap.write Seam.init s.seams k v }

/-- `seam` `k` updated. -/
def State.modSeam (s : State) (k : Nat) (f : Seam → Seam) : State := s.setSeam k (f (s.seam k))

/-- The state of element `k` of the fabric (Machine/Fabric.lean numbers them). -/
def State.node (s : State) (k : Nat) : Node := SMap.read Node.init s.wires.nodes k

/-- `node` `k` replaced. -/
def State.setNode (s : State) (k : Nat) (v : Node) : State :=
  { s with wires := { s.wires with nodes := SMap.write Node.init s.wires.nodes k v } }

/-- `node` `k` updated. -/
def State.modNode (s : State) (k : Nat) (f : Node → Node) : State := s.setNode k (f (s.node k))

/-- The state of the memory-group turn of cluster number `1024·t + c`. -/
def State.turn (s : State) (k : Nat) : MemTurn := SMap.read MemTurn.init s.wires.turns k

/-- `turn` `k` replaced. -/
def State.setTurn (s : State) (k : Nat) (v : MemTurn) : State :=
  { s with wires := { s.wires with turns := SMap.write MemTurn.init s.wires.turns k v } }

/-- `turn` `k` updated. -/
def State.modTurn (s : State) (k : Nat) (f : MemTurn → MemTurn) : State := s.setTurn k (f (s.turn k))

/-- The state of word `k mod 4` of descriptor `k div 4` (R169). -/
def State.desc (s : State) (k : Nat) : Word := SMap.read Lace.descInit s.lace.desc k

/-- `desc` `k` replaced. -/
def State.setDesc (s : State) (k : Nat) (v : Word) : State :=
  { s with lace := { s.lace with desc := SMap.write Lace.descInit s.lace.desc k v } }

/-- `desc` `k` updated. -/
def State.modDesc (s : State) (k : Nat) (f : Word → Word) : State := s.setDesc k (f (s.desc k))

/-- The state of the request of caller `k` (`callerKey`). -/
def State.req (s : State) (k : Nat) : LaceReq := SMap.read LaceReq.init s.lace.reqs k

/-- `req` `k` replaced. -/
def State.setReq (s : State) (k : Nat) (v : LaceReq) : State :=
  { s with lace := { s.lace with reqs := SMap.write LaceReq.init s.lace.reqs k v } }

/-- `req` `k` updated. -/
def State.modReq (s : State) (k : Nat) (f : LaceReq → LaceReq) : State := s.setReq k (f (s.req k))

/-- The state of edge clock `k`. -/
def State.ec (s : State) (k : Nat) : EdgeClock := SMap.read EdgeClock.init s.clk.ecs k

/-- `ec` `k` replaced. -/
def State.setEc (s : State) (k : Nat) (v : EdgeClock) : State :=
  { s with clk := { s.clk with ecs := SMap.write EdgeClock.init s.clk.ecs k v } }

/-- `ec` `k` updated. -/
def State.modEc (s : State) (k : Nat) (f : EdgeClock → EdgeClock) : State := s.setEc k (f (s.ec k))

/-- The state of phase loop `k`. -/
def State.phase (s : State) (k : Nat) : PhaseLoop := SMap.read PhaseLoop.init s.clk.phases k

/-- `phase` `k` replaced. -/
def State.setPhase (s : State) (k : Nat) (v : PhaseLoop) : State :=
  { s with clk := { s.clk with phases := SMap.write PhaseLoop.init s.clk.phases k v } }

/-- `phase` `k` updated. -/
def State.modPhase (s : State) (k : Nat) (f : PhaseLoop → PhaseLoop) : State := s.setPhase k (f (s.phase k))

/-- The state of pin `k`. -/
def State.pin (s : State) (k : Nat) : Pin := SMap.read Pin.init s.pins.pins k

/-- `pin` `k` replaced. -/
def State.setPin (s : State) (k : Nat) (v : Pin) : State :=
  { s with pins := { s.pins with pins := SMap.write Pin.init s.pins.pins k v } }

/-- `pin` `k` updated. -/
def State.modPin (s : State) (k : Nat) (f : Pin → Pin) : State := s.setPin k (f (s.pin k))

/-- The state of the registers of pin bank `k`. -/
def State.pinBank (s : State) (k : Nat) : PinBank := SMap.read PinBank.init s.pins.banks k

/-- `pinBank` `k` replaced. -/
def State.setPinBank (s : State) (k : Nat) (v : PinBank) : State :=
  { s with pins := { s.pins with banks := SMap.write PinBank.init s.pins.banks k v } }

/-- `pinBank` `k` updated. -/
def State.modPinBank (s : State) (k : Nat) (f : PinBank → PinBank) : State := s.setPinBank k (f (s.pinBank k))

/-- The state of region `k`. -/
def State.region (s : State) (k : Nat) : Region := SMap.read Region.init s.cfg.regions k

/-- `region` `k` replaced. -/
def State.setRegion (s : State) (k : Nat) (v : Region) : State :=
  { s with cfg := { s.cfg with regions := SMap.write Region.init s.cfg.regions k v } }

/-- `region` `k` updated. -/
def State.modRegion (s : State) (k : Nat) (f : Region → Region) : State := s.setRegion k (f (s.region k))

/-- The state of the configuration frame at frame address `k` (R275). -/
def State.frame (s : State) (k : Nat) : Frame := SMap.read (fun _ => (0 : Frame)) s.cfg.frames k

/-- `frame` `k` replaced. -/
def State.setFrame (s : State) (k : Nat) (v : Frame) : State :=
  { s with cfg := { s.cfg with frames := SMap.write (fun _ => (0 : Frame)) s.cfg.frames k v } }

/-- `frame` `k` updated. -/
def State.modFrame (s : State) (k : Nat) (f : Frame → Frame) : State := s.setFrame k (f (s.frame k))

/-- The state of UART `k`. -/
def State.uart (s : State) (k : Nat) : Uart := SMap.read Uart.init s.hk.uarts k

/-- `uart` `k` replaced. -/
def State.setUart (s : State) (k : Nat) (v : Uart) : State :=
  { s with hk := { s.hk with uarts := SMap.write Uart.init s.hk.uarts k v } }

/-- `uart` `k` updated. -/
def State.modUart (s : State) (k : Nat) (f : Uart → Uart) : State := s.setUart k (f (s.uart k))

/-- The state of SPI `k`. -/
def State.spi (s : State) (k : Nat) : Spi := SMap.read Spi.init s.hk.spis k

/-- `spi` `k` replaced. -/
def State.setSpi (s : State) (k : Nat) (v : Spi) : State :=
  { s with hk := { s.hk with spis := SMap.write Spi.init s.hk.spis k v } }

/-- `spi` `k` updated. -/
def State.modSpi (s : State) (k : Nat) (f : Spi → Spi) : State := s.setSpi k (f (s.spi k))

/-- The state of I2C `k`. -/
def State.i2c (s : State) (k : Nat) : I2c := SMap.read I2c.init s.hk.i2cs k

/-- `i2c` `k` replaced. -/
def State.setI2c (s : State) (k : Nat) (v : I2c) : State :=
  { s with hk := { s.hk with i2cs := SMap.write I2c.init s.hk.i2cs k v } }

/-- `i2c` `k` updated. -/
def State.modI2c (s : State) (k : Nat) (f : I2c → I2c) : State := s.setI2c k (f (s.i2c k))

/-- The state of TIMER `k`. -/
def State.timer (s : State) (k : Nat) : Timer := SMap.read Timer.init s.hk.timers k

/-- `timer` `k` replaced. -/
def State.setTimer (s : State) (k : Nat) (v : Timer) : State :=
  { s with hk := { s.hk with timers := SMap.write Timer.init s.hk.timers k v } }

/-- `timer` `k` updated. -/
def State.modTimer (s : State) (k : Nat) (f : Timer → Timer) : State := s.setTimer k (f (s.timer k))

/-- A free bit, and the state in which it has been drawn (log entry 7). -/
def State.drawBit (s : State) : Bool × State :=
  (Config.freeBit s.freeCtr, { s with freeCtr := s.freeCtr + 1 })

/-- A free word, and the state in which it has been drawn (log entry 7). -/
def State.drawWord (s : State) : Word × State :=
  (Config.freeWord s.freeCtr, { s with freeCtr := s.freeCtr + 1 })

end Sys2Proof.Machine
end

