-- ==== Sys2Proof/Machine/Ops.lean ====
section
/-! DEFINITION. The named operations that several families share: fault reports, the ends of Lace
waiters, the address map and its checks, memory with its error correction, the registers of a core,
and what a core does when it traps, stops or retires. -/

namespace Sys2Proof.Machine

/-! ### Reports to the fault manager (R355, R356) -/

/-- A report of the given code with nothing else said. -/
def Report.of (code : Nat) : Report where
  time := 0
  code := code
  inRetry := false
  retry := false
  timeout := false
  isPartial := false
  golden := false
  injected := false
  action := 0
  tile := 0
  dev := false
  index := 0
  cell := 0
  cause := 0
  detail := 0

/-- A detected fault starts on its way to the fault manager, with the time of its detection (R355, R356). -/
def State.report (r : Report) (s : State) : State :=
  { s with flt := { s.flt with inbox := s.flt.inbox ++ [{ r with time := word s.time }] } }

/-! ### Tiles, regions and who is served (R23, R304, R315) -/

/-- The region of a tile: the one whose mask names it, else region 0 (R303). -/
def State.regionOf (s : State) (t : Nat) : Nat :=
  match (List.range 15).find? (fun r => (s.region (r + 1)).mask.getLsbD t) with
  | some r => r + 1
  | none => 0

/-- The state of the region that holds a tile (R304). -/
def State.regionState (s : State) (t : Nat) : RegionState := (s.region (s.regionOf t)).state

/-- A tile has its power (R346, R347). A tile that is being gated still has it. -/
def Power.isOn : Power → Bool
  | .on => true
  | .gating _ => true
  | _ => false

/-- A tile is gated, in either GATED or RETAIN state, or on its way between (R23, R352). -/
def Power.off : Power → Bool
  | .on => false
  | _ => true

/-- A region in this state keeps its tiles from serving accesses (R315). -/
def RegionState.away : RegionState → Bool
  | .loading => true
  | .aborted => true
  | .empty => true
  | _ => false

/-- The tile's local memory and taps serve accesses: it is powered, not fenced, not being cleared
and not in a region that is away (R23, R124, R315). -/
def State.tileServes (s : State) (t : Nat) : Bool :=
  !(s.tile t).power.off && !(s.tile t).fenced && !(s.tile t).clearing && !(s.regionState t).away

/-- The tile's bank serves accesses: also not fenced under R117. -/
def State.bankServes (s : State) (t : Nat) : Bool := s.tileServes t && !(s.tile t).bankFenced

/-! ### Ends of Lace waiters (R173) -/

/-- The number of a caller in `Lace.reqs`: cores 0–128, eyelet port `e` of tile `t` 256 + 16·t + e. -/
def callerKey : LaceCaller → Nat
  | .core c => c
  | .port t e => 256 + 16 * t + e

/-- The node answers a request: the answer starts back over the links the request came by (R185). -/
def State.answer (k code : Nat) (value : DWord) (src : Nat) (s : State) : State :=
  s.modReq k (fun r => { r with
    phase := .answer code value src, route := r.back, back := [],
    retries := 0, failedCrc := false, forced := false })

/-- Caller `k` waits no more for its turn at a home node (R168). -/
def State.leaveNode (k : Nat) (s : State) : State :=
  { s with lace := { s.lace with arrived := s.lace.arrived.filter (· ≠ k) } }

/-- The request of a caller is withdrawn and never answered (R173, R183). -/
def State.withdraw (k : Nat) (s : State) : State := (s.leaveNode k).setReq k (LaceReq.init k)

/-- One waiter ends: with a status, or withdrawn (R173). -/
def State.endWaiter (how : Option Nat) (s : State) (w : Waiter) : State :=
  match how with
  | some code => s.answer w.caller code 0 0
  | none => s.withdraw w.caller

/-- Every waiter that `p` picks ends, with a status code or with nothing (R173). -/
def State.endWaiters (p : Waiter → Bool) (how : Option Nat) (s : State) : State :=
  (s.lace.waiters.filter p).foldl (State.endWaiter how)
    { s with lace := { s.lace with waiters := s.lace.waiters.filter (fun w => !p w) } }

/-- The byte address of slot 0 of queue `n`'s ring: base with the bits below its alignment zero
(R169, R170). -/
def State.ringBase (s : State) (n : Nat) : Nat :=
  let w1 := s.desc (4 * n + 1)
  let size := 2 ^ fld w1 22 5 * (if bitOf w1 27 then 8 else 4)
  (s.desc (4 * n)).toNat / size * size

/-- The tiles whose banks hold queue `n`'s ring: none for an EVENT queue and for a ring outside bank
memory (R170, R176). -/
def State.ringTiles (s : State) (n : Nat) : List Nat :=
  let w1 := s.desc (4 * n + 1)
  let size := 2 ^ fld w1 22 5 * (if bitOf w1 27 then 8 else 4)
  if fld w1 28 4 = 3 then []
  else if s.ringBase n < 0x1000000 then
    (List.range ((size + 0x1FFFF) / 0x20000)).map (s.ringBase n / 0x20000 + ·)
  else []

/-! ### Memory (R99, R100, R113–R117) -/

/-- Which memory a word belongs to (R19). -/
inductive Mem where
  | bank (t : Nat)
  | engine (e : Nat)
  | qsram
deriving DecidableEq, Repr

/-- The memory of word number `wa` (address / 4). -/
def memOf (wa : Nat) : Mem :=
  if wa < 0x400000 then .bank (wa / 0x8000)
  else if wa < 0x480000 then .engine ((wa - 0x400000) / 0x1000)
  else .qsram

/-- A byte of memory; one that nothing has written since it was cleared is zero (R124, R323). -/
def State.byte (s : State) (a : Nat) : Byte := SMap.read (fun _ => (0 : Byte)) s.mem.cells a

/-- A byte of memory written. -/
def State.setByte (s : State) (a : Nat) (b : Byte) : State :=
  { s with mem := { s.mem with cells := SMap.write (fun _ => (0 : Byte)) s.mem.cells a b } }

/-- The data of word `wa`, least significant byte at the lowest address (R21). -/
def State.wordAt (s : State) (wa : Nat) : Word :=
  wordOfBytes (s.byte (4 * wa)) (s.byte (4 * wa + 1)) (s.byte (4 * wa + 2)) (s.byte (4 * wa + 3))

/-- The enabled bytes of word `wa` written; `memEpoch` counts the write (log entry 10). -/
def State.putWord (s : State) (wa : Nat) (en : BitVec 4) (d : Word) : State :=
  let s0 := if en.getLsbD 0 then s.setByte (4 * wa) (byteOf d 0) else s
  let s1 := if en.getLsbD 1 then s0.setByte (4 * wa + 1) (byteOf d 1) else s0
  let s2 := if en.getLsbD 2 then s1.setByte (4 * wa + 2) (byteOf d 2) else s1
  let s3 := if en.getLsbD 3 then s2.setByte (4 * wa + 3) (byteOf d 3) else s2
  { s3 with memEpoch := s3.memEpoch + 1 }

/-- The state of the code of word `wa`, if it is not clean (R113). -/
def State.eccAt (s : State) (wa : Nat) : Option Ecc :=
  (s.mem.ecc.find? (fun p => p.1 = wa)).map (·.2)

/-- The code of word `wa` set, or made clean. -/
def State.setEcc (s : State) (wa : Nat) (e : Option Ecc) : State :=
  { s with mem := { s.mem with ecc := match e with
    | none => SMap.erase s.mem.ecc wa
    | some v => SMap.insert (SMap.erase s.mem.ecc wa) wa v } }

/-- A corrected single-bit error is counted (R114, R121). -/
def State.countCe (s : State) (wa : Nat) : State :=
  match memOf wa with
  | .bank t => s.modTile t (fun x => { x with bankCe := sat 0xFF (x.bankCe + 1) })
  | .engine e => s.modTile e (fun x => { x with localCe := sat 0xFF (x.localCe + 1) })
  | .qsram => s

/-- The background test of bank `t` stops: it runs on no fenced bank (R373, R377). -/
def Bist.cutBank (t : Nat) (b : Bist) : Bist :=
  { b with background := b.background.map (fun (p : Nat × AwlRun) =>
      if p.1 = t then (p.1, { p.2 with cut := true }) else p) }

/-- A bank is fenced: flag, health, its background test, and every waiter of a queue whose ring lies in it ends
with FAULT (R117, R176, R366, R377). -/
def State.fenceBank (t : Nat) (s : State) : State :=
  let s1 := s.modTile t (fun x => { x with bankFenced := true })
  let s2 := { s1 with dev := { s1.dev with svcBank := true }, bist := s1.bist.cutBank t }
  s2.endWaiters (fun w => (s2.ringTiles w.queue).contains t) (some 7)

/-- A double-bit error is found: the word is poisoned, the flag set, the fault reported, and a bank
with its fourth detection within 1 s is fenced (R115, R117, R119). -/
def State.foundUe (wa : Nat) (injected : Bool) (s : State) : State :=
  let s0 := s.setEcc wa (some .poison)
  let other := s0.pert.poisoned.filter (· ≠ wa)
  let s1 := { s0 with pert := { s0.pert with poisoned := if injected then wa :: other else other } }
  let r := { Report.of 0x04 with injected := injected, detail := word (4 * wa) }
  match memOf wa with
  | .bank t =>
    let n := (s1.tile t).bankUe1s + 1
    let s2 := s1.modTile t (fun x => { x with ue := true, bankUe1s := n })
    if 4 ≤ n ∧ !(s1.tile t).bankFenced then
      (s2.fenceBank t).report { r with tile := t, action := 3 }
    else s2.report { r with tile := t }
  | .engine e => (s1.modTile e (fun x => { x with ue := true })).report { r with tile := e }
  | .qsram => s1.report { r with dev := true }

/-- A sub-bank has been accessed once more since the governor's last sample (R345). -/
def State.countAccess (s : State) : State := { s with pwr := { s.pwr with accesses := s.pwr.accesses + 1 } }

/-- A read of word `wa`, with correction and detection (R113–R115). -/
def State.memRead (s : State) (wa : Nat) : Reply × State :=
  match s.eccAt wa with
  | none => (.data (s.wordAt wa), s)
  | some (.single _) => (.data (s.wordAt wa), (s.countCe wa).setEcc wa none)
  | some (.double i _) => (.err .ecc, s.foundUe wa i)
  | some .poison => (.err .ecc, s)

/-- A write of the enabled bytes of word `wa`. A full-word write does not check the old word; a
partial one does (R113–R116). The cause tells a refused write. -/
def State.memWrite (s : State) (wa : Nat) (en : BitVec 4) (d : Word) : Option Cause × State :=
  if en = 15 then (none, (s.putWord wa en d).setEcc wa none)
  else match s.eccAt wa with
    | none => (none, s.putWord wa en d)
    | some (.single _) => (none, ((s.countCe wa).setEcc wa none).putWord wa en d)
    | some (.double i _) => (some .ecc, s.foundUe wa i)
    | some .poison => (some .ecc, s)

/-- An atomic operation on word `wa`: the old value returns, `f old` is stored (R110, R113–R115). -/
def State.memAtomic (s : State) (wa : Nat) (f : Word → Word) : Reply × State :=
  match s.memRead wa with
  | (.data old, s1) => (.data old, (s1.putWord wa 15 (f old)).setEcc wa none)
  | (.err e, s1) => (.err e, s1)

/-- The words of a memory from word `lo` on, `n` of them, are cleared to zero with valid codes and
every poison mark is removed (R124). -/
def State.clearWords (s : State) (lo n : Nat) : State :=
  { s with
    mem := { cells := s.mem.cells.filter (fun p => !(4 * lo ≤ p.1 && p.1 < 4 * (lo + n))),
             ecc := s.mem.ecc.filter (fun p => !(lo ≤ p.1 && p.1 < lo + n)) }
    memEpoch := s.memEpoch + 1 }

/-- The first word of tile `t`'s bank and of its engine's local memory, and of Quince's SRAM (R19). -/
def bankWord (t : Nat) : Nat := t * 0x8000
def localWord (e : Nat) : Nat := 0x400000 + e * 0x1000
def qsramWord : Nat := 0x0F000000 / 4

/-- A bank's and a local memory's clearing (R124). A fence of the bank stays (R117). -/
def State.clearTileMem (s : State) (t : Nat) (keepBank : Bool) : State :=
  let s1 := s.clearWords (localWord t) 0x1000
  if keepBank then s1 else s1.clearWords (bankWord t) 0x8000

/-! ### The address map (R19, R22, R406) -/

/-- What an address names. -/
inductive Target where
  /-- Bank or local memory or Quince's SRAM, by word number. -/
  | mem (wa : Nat)
  /-- A descriptor byte (R169). -/
  | desc (off : Nat)
  | tap (t j off : Nat)
  /-- A register of a TILE block. -/
  | tileReg (t off : Nat)
  /-- A register of another block, by address. -/
  | reg (a : Nat)
  | rom (wn : Nat)
  /-- No range, or a range that the core may not reach (R22). -/
  | none
deriving DecidableEq, Repr

/-- The target of an address for a core: Cobblers see their own windows, Quince its private
memories (R19). -/
def target (c : Nat) (addr : Word) : Target :=
  let a := addr.toNat
  if a < 0x01200000 then .mem (a / 4)
  else if a < 0x01800000 then .none
  else if a < 0x01804000 then
    if c = 128 then .none else .mem (localWord c + (a - 0x01800000) / 4)
  else if a < 0x01808000 then .none
  else if a < 0x01809000 then if c = 128 then .none else .tileReg c (a - 0x01808000)
  else if a < 0x02000000 then .none
  else if a < 0x02040000 then .desc (a - 0x02000000)
  else if a < 0x04000000 then .none
  else if a < 0x04800000 then
    .tap ((a - 0x04000000) / 0x10000) ((a / 0x1000) % 16) (a % 0x1000)
  else if a < 0x08000000 then .none
  else if a < 0x09000000 then
    if 0x08100000 ≤ a ∧ a < 0x08180000 then
      .tileReg ((a - 0x08100000) / 0x1000) (a % 0x1000)
    else .reg a
  else if a < 0x0F000000 then .none
  else if a < 0x0F040000 then if c = 128 then .mem (a / 4) else .none
  else if a < 0x0FFF8000 then .none
  else if a < 0x10000000 then if c = 128 then .rom ((a - 0x0FFF8000) / 4) else .none
  else .none

/-- The kind of a data access. -/
inductive Access where
  | load | store | atomic
deriving DecidableEq, Repr

/-- The number of bytes of a width. -/
def widthBytes : MemWidth → Nat
  | .byte => 1
  | .half => 2
  | .word => 4

/-- The block number of DEV_EWMASK for a register address: CFG 0, PWR 1, CLK 2, PACE 3, PIN 4,
SEAM 5, FLT 6, BIST 7, PERT 8, LACE 9, INTC 10, HK 11; 12 for DEV, which no Cobbler writes (R353). -/
def ewBlock (a : Nat) : Nat :=
  let b := (a - 0x08000000) / 0x10000
  if b = 1 then 0 else if b = 2 then 1
  else if b = 3 then (if a % 0x10000 < 0x8000 then 2 else 3)
  else if b = 4 then 4 else if b = 5 then 5 else if b = 6 then 6 else if b = 7 then 7
  else if b = 8 then 8 else if b = 9 then 9 else if b = 10 then 10 else if b = 11 then 11
  else 12

/-- A core may write a register at all (R22, R153, R353). -/
def State.mayWrite (s : State) (c : Nat) (tg : Target) : Bool :=
  if c = 128 then true
  else match tg with
    | .tileReg t _ => t = c || s.dev.ewTiles
    | .reg a => decide (ewBlock a < 12) && s.dev.ewBlocks.getLsbD (ewBlock a)
    | _ => true

/-- The word is served at all: its tile is neither gated, fenced nor away (R23, R117, R315). -/
def State.memServes (s : State) (wa : Nat) : Bool :=
  match memOf wa with
  | .bank t => s.bankServes t
  | .engine e => s.tileServes e
  | .qsram => true

/-- Check 1 of R406: the address map. -/
def mapCheck (c : Nat) (addr : Word) : Option Cause :=
  match target c addr with
  | .none => some .access
  | _ => Option.none

/-- Check 2 of R406: alignment. -/
def alignCheck (addr : Word) (w : MemWidth) : Option Cause :=
  if addr.toNat % widthBytes w = 0 then none else some .align

/-- Check 3 of R406: refusals within a range (R22, R111, R133, R153, R323, R23). -/
def State.refusal (s : State) (c : Nat) (addr : Word) (w : MemWidth) (k : Access) : Option Cause :=
  match target c addr with
  | .none => some .access
  | .mem wa =>
    if k = .atomic ∧ 0x400000 ≤ wa then some .access
    else if s.memServes wa then none else some .access
  | .desc _ => if k = .atomic then some .access else none
  | .tap _ _ _ => some .access
  | .tileReg t o =>
    if k = .atomic ∨ w ≠ .word then some .access
    else if k = .store ∧ !s.mayWrite c (.tileReg t o) then some .access else none
  | .reg a =>
    if k = .atomic ∨ w ≠ .word then some .access
    else if k = .store ∧ !s.mayWrite c (.reg a) then some .access else none
  | .rom _ => if k = .load then none else some .access

/-- The first of checks 1 to 3 that fails (R406). -/
def State.accessCheck (s : State) (c : Nat) (addr : Word) (w : MemWidth) (k : Access) : Option Cause :=
  match mapCheck c addr with
  | some e => some e
  | none => match alignCheck addr w with
    | some e => some e
    | none => s.refusal c addr w k

/-! ### The registers of a core (R125, R164) -/

/-- Quince's active register bank: 2, 1 or 0 for the main bank (R164); a Cobbler has bank 0 only. -/
def State.bankOf (s : State) (c : Nat) : Nat :=
  if c = 128 then
    if s.quince.ctxs.any (fun x => match x with | .bank2 _ => true | _ => false) then 2
    else if s.quince.ctxs.any (fun x => match x with | .bank1 _ => true | _ => false) then 1
    else 0
  else 0

/-- Register `n` of bank `b`; g0 reads as zero (R125). -/
def State.regIn (s : State) (c b n : Nat) : Word :=
  if n = 0 then 0 else SMap.read (fun _ => (0 : Word)) (s.core c).regs (16 * b + n)

/-- Register `n` of bank `b` written; a write to g0 is discarded (R125). -/
def State.setRegIn (s : State) (c b n : Nat) (v : Word) : State :=
  if n = 0 then s
  else s.modCore c (fun x => { x with regs := SMap.write (fun _ => (0 : Word)) x.regs (16 * b + n) v })

/-- Register `n` of the active bank. -/
def State.reg (s : State) (c n : Nat) : Word := s.regIn c (s.bankOf c) n

/-- Register `n` of the active bank written. -/
def State.setReg (s : State) (c n : Nat) (v : Word) : State := s.setRegIn c (s.bankOf c) n v

/-! ### Traps, stops and retirement (R150, R151, R154, R165) -/

/-- The cause codes (R150). -/
def Cause.code : Cause → Nat
  | .none => 0 | .illegal => 1 | .access => 2 | .align => 3 | .ecc => 4
  | .trap => 5 | .sys => 6 | .halt => 7 | .wdog => 8 | .haltreq => 9

/-- The state in which a cause leaves a Cobbler (R150). -/
def Cause.state : Cause → EngState
  | .sys => .sys
  | .halt => .halted
  | .haltreq => .halted
  | _ => .faulted

/-- A Cobbler trap with one of these causes is a fault ENG_TRAP (R355). -/
def Cause.isEngTrap : Cause → Bool
  | .illegal => true | .access => true | .align => true | .ecc => true | .trap => true
  | _ => false

/-- The trap comes from a word that PERT_ECC made uncorrectable (R383). -/
def State.provoked (s : State) (c : Nat) (cause : Cause) (eaddr : Word) : Bool :=
  cause == .ecc && (match target c eaddr with
    | .mem wa => s.eccAt wa == some .poison && s.pert.poisoned.contains wa
    | _ => false)

/-- A Cobbler traps or stops: its state, cause, exception PC and address are set, it waits for
nothing, its posted stores stay to drain, and a fault is reported (R150, R151, R355). -/
def State.stopCobbler (e : Nat) (cause : Cause) (epc eaddr : Word) (deferred : Bool) (s : State) : State :=
  let s1 := s.modCore e (fun x => { x with
    state := cause.state, cause := cause, epc := epc, epcAt := some s.time, eaddr := eaddr, deferred := deferred,
    wait := none, haltPend := false, stepping := false })
  if cause.isEngTrap then
    s1.report { Report.of 0x05 with tile := e, cause := cause.code, detail := epc, injected := s.provoked e cause eaddr }
  else s1

/-- An instruction boundary: a step or a pending halt stops the core there, a Cobbler with cause
HALTREQ, Quince for the debug port. A deferred trap that is due there comes first (R150, R154, R159,
R333). -/
def State.boundary (c : Nat) (s : State) : State :=
  let x := s.core c
  if (x.stepping ∨ x.haltPend) ∧ x.storeErr.isNone then
    if c = 128 then
      { s with quince := { s.quince with dbgHalted := true, dbgDone := true } }.modCore c
        (fun y => { y with stepping := false, haltPend := false })
    else s.stopCobbler c .haltreq x.pc 0 false
  else s

/-- Quince traps: EPC, CAUSE, EADDR, pie, ie and exc are set and the pc goes to VBASE; with exc = 1
already, or with VBASE still in the boot ROM, Quince stops (R165, R323). The trap is also the boundary at
which a step or a halt of the debug port ends (R333). A double trap leaves EPC, CAUSE, EADDR, pie, ie and the pc as
they were (DESIGN CHOICE, log entry 92). -/
def State.trapQuince (cause : Cause) (epc eaddr : Word) (s : State) : State :=
  let q := s.quince
  if q.exc then
    ({ s with quince := { q with stopped := true } }.modCore 128 (fun x => { x with wait := none })).boundary 128
  else
    ({ s with quince := { q with
        epc := epc, cause := cause, eaddr := eaddr, pie := q.ie, ie := false,
        exc := true, ctxs := .trap :: q.ctxs, stopped := decide (q.vbase = 0x0FFF8000#32) } }.modCore 128
      (fun x => { x with pc := q.vbase, wait := none })).boundary 128

/-- TAKING AN EXCEPTION: a core traps with a cause, an exception PC and an exception address. -/
def State.trap (c : Nat) (cause : Cause) (epc eaddr : Word) (s : State) : State :=
  if c = 128 then s.trapQuince cause epc eaddr else s.stopCobbler c cause epc eaddr false

/-- IRET: Quince leaves the most recently entered context (R166). The state is `none` when no
context is active. Bits 1 and 0 of the return address are dropped (DESIGN CHOICE, log entry 93). -/
def State.leaveContext (s : State) : Option State :=
  let q := s.quince
  match q.ctxs with
  | [] => none
  | .bank2 l :: r => some ({ s with quince := { q with ctxs := r, lvl := l } }.modCore 128
      (fun x => { x with pc := q.ipc2 &&& 0xFFFFFFFC#32 }))
  | .bank1 l :: r => some ({ s with quince := { q with ctxs := r, lvl := l } }.modCore 128
      (fun x => { x with pc := q.ipc1 &&& 0xFFFFFFFC#32 }))
  | .trap :: r => some ({ s with quince := { q with ctxs := r, ie := q.pie, exc := false } }.modCore 128
      (fun x => { x with pc := q.epc &&& 0xFFFFFFFC#32 }))

/-- INSTRET counts modulo 2^64 (R149). -/
def Core.count (x : Core) : Core := { x with instret := (x.instret + 1) % 2 ^ 64 }

/-- An instruction retires: INSTRET counts it, the core waits for nothing and the pc goes on (R149). -/
def State.retire (c : Nat) (next : Word) (s : State) : State :=
  (s.modCore c (fun x => { x.count with
    pc := next, wait := none, state := if c = 128 then x.state else .running })).boundary c

/-- The event bits of an engine are set, unless it is OFF or FENCED (R147, R148, R177). -/
def State.setEvents (e : Nat) (b : BitVec 16) (s : State) : State :=
  match (s.core e).state with
  | .off => s
  | .fenced => s
  | _ => s.modTile e (fun x => { x with evt := x.evt ||| b })

end Sys2Proof.Machine
end

