-- ==== Sys2Proof/Machine/Operands.lean ====
section
/-! DEFINITION. Instruction words: their formats (R127), which words are defined and legal (R128 to
R131, R140), the fetch (R134) and the frame that every instruction runs in. -/

namespace Sys2Proof.Machine

/-- The outcome of a command. -/
abbrev Result := Host.Outcome State Fault Refusal

/-! ### Fields (R127) -/

/-- Opcode, bits [31:26]. -/
def opc (w : Word) : Nat := fld w 26 6
/-- Formats A, Q and I: rd, bits [25:22]. -/
def rdF (w : Word) : Nat := fld w 22 4
/-- Formats A, Q and I: ra, bits [21:18]. -/
def raF (w : Word) : Nat := fld w 18 4
/-- Formats A and Q: rb, bits [17:14]. -/
def rbF (w : Word) : Nat := fld w 14 4
/-- Formats A and Q: fn, bits [13:0]. -/
def fnF (w : Word) : Nat := fld w 0 14
/-- Format S: ra, bits [25:22]. -/
def raS (w : Word) : Nat := fld w 22 4
/-- Format S: rb, bits [21:18]. -/
def rbS (w : Word) : Nat := fld w 18 4
/-- Formats I and S: imm18 zero-extended. -/
def immZ (w : Word) : Word := word (fld w 0 18)
/-- Formats I and S: imm18 sign-extended. -/
def immS (w : Word) : Word := sext 18 (fld w 0 18)
/-- Format J: imm26 as it stands. -/
def imm26 (w : Word) : Word := word (fld w 0 26)
/-- Format J: imm26 sign-extended. -/
def imm26S (w : Word) : Word := sext 26 (fld w 0 26)

/-- Q format: rs, fn[3:0] (R140). -/
def rsQ (w : Word) : Nat := fld w 0 4
/-- Q format: w, fn[4] (R140). -/
def wideQ (w : Word) : Bool := bitOf w 4

/-! ### Which words are instructions (R128–R131) -/

/-- The opcodes of the opcode map (R129). -/
def opcodeDefined (o : Nat) : Bool :=
  o ≤ 0x19 || (0x20 ≤ o && o ≤ 0x26) || (0x28 ≤ o && o ≤ 0x2A) || (0x30 ≤ o && o ≤ 0x33) ||
  (0x38 ≤ o && o ≤ 0x3C) || o == 0x3E || o == 0x3F

/-- A word with a defined opcode, a defined ALU fn and a defined SHIFTI kind (R128, R130, R131). -/
def wordDefined (w : Word) : Bool :=
  opcodeDefined (opc w) && (opc w != 0 || fnF w < 20) && (opc w != 0x06 || fld w 5 2 != 3)

/-- A register that carries a 64-bit entry names an even register from g2 to g12 (R140). -/
def pairOk (n : Nat) : Bool := n % 2 == 0 && 2 ≤ n && n ≤ 12

/-- The condition of R140 on a queue instruction with w = 1: the entry's register pair, and rs not in
a pair that the instruction writes. -/
def wideOk (w : Word) : Bool :=
  !wideQ w ||
  (if opc w = 0x20 then pairOk (rbF w)
   else if opc w = 0x26 then true
   else pairOk (rdF w) && rsQ w != rdF w && rsQ w != rdF w + 1)

/-- The fields that an instruction lists as unused are zero, and Quince-only instructions run on
Quince (R128, R131, R140, R145, R148, R149, R162). -/
def legal (c : Nat) (w : Word) : Bool :=
  let o := opc w
  if o = 0x00 then !(17 ≤ fnF w && fnF w ≤ 19) || rbF w == 0
  else if o = 0x06 then fld w 7 11 == 0
  else if o = 0x07 then raF w == 0
  else if o = 0x18 ∨ o = 0x19 then fnF w == 0
  else if o = 0x20 then rdF w == 0 && fld w 5 9 == 0 && wideOk w
  else if o = 0x25 then fld w 5 9 == 0 && wideOk w
  else if 0x21 ≤ o ∧ o ≤ 0x26 then rbF w == 0 && fld w 5 9 == 0 && wideOk w
  else if o = 0x2A then fld w 4 10 == 0
  else if o = 0x30 then rbF w == 0 && fld w 1 13 == 0 && (c != 128 || raF w == 0)
  else if o = 0x31 then rdF w == 0 && fnF w == 0
  else if o = 0x33 then fld w 0 26 == 0
  else if o = 0x38 then raF w == 0
  else if o = 0x39 then rdF w == 0
  else if o = 0x3A ∨ o = 0x3B then c == 128
  else if o = 0x3C then c == 128 && fld w 0 26 == 0
  else true

/-- The word is the ALU operation `fn` (R130). -/
def isAlu (fn : Nat) (w : Word) : Bool := opc w == 0 && fnF w == fn
/-- The word is SHIFTI of kind `k` (R131). -/
def isShifti (k : Nat) (w : Word) : Bool := opc w == 0x06 && fld w 5 2 == k
/-- The word has opcode `o`. -/
def isOp (o : Nat) (w : Word) : Bool := opc w == o

/-! ### Fetch (R134, R136) -/

/-- What a fetch gives. -/
inductive Fetched where
  | word (w : Word)
  | trap (cause : Cause)
deriving DecidableEq, Repr

/-- The word that core `c` executes next. `f = none` reads memory at the pc under R134, R113 and R115.
`f = some w` is a word fetched earlier; a core can hold one that differs from memory only if memory
has been written since its last FENCE or start (R136, log entry 10). -/
def State.fetch (s : State) (c : Nat) (f : Option Word) : Fetched × State :=
  let pc := (s.core c).pc
  match target c pc with
  | .mem wa =>
    if !s.memServes wa then (.trap .access, s)
    else match f with
      | some w =>
        if (s.core c).fetchEpoch < s.memEpoch then (.word w, s)
        else match s.memRead wa with
          | (.data d, s1) => (.word d, s1)
          | (.err e, s1) => (.trap e, s1)
      | none => match s.memRead wa with
        | (.data d, s1) => (.word d, s1)
        | (.err e, s1) => (.trap e, s1)
  | .rom n => (.word (Config.bootRom n), s)
  | _ => (.trap .access, s)

/-- Instructions that touch registers and the pc alone, which may issue behind a load (R135). -/
def plainWord (w : Word) : Bool :=
  let o := opc w
  decide (o ≤ 0x07) || (decide (0x10 ≤ o) && decide (o ≤ 0x17))

/-- The registers that a plain instruction reads. -/
def readsOf (w : Word) : List Nat :=
  let o := opc w
  if o = 0x00 then [raF w, rbF w]
  else if o = 0x07 ∨ o = 0x16 then []
  else if 0x10 ≤ o ∧ o ≤ 0x15 then [raS w, rbS w]
  else [raF w]

/-- The register that a plain instruction writes; 0 for none. -/
def destOf (w : Word) : Nat :=
  let o := opc w
  if o = 0x16 then 15 else if 0x10 ≤ o ∧ o ≤ 0x15 then 0 else rdF w

/-- The word may issue while the load `l` is outstanding: it makes no access, does not read the load's
destination, and cannot trap or stop there (R135, R151). -/
def State.mayOverlap (s : State) (c : Nat) (l : Load) (w : Word) : Bool :=
  let x := s.core c
  plainWord w && legal c w && !x.stepping && !x.haltPend && (l.rd == 0 || !(readsOf w).contains l.rd) &&
    (opc w != 0x17 || (s.reg c (raF w) + immS w).toNat % 4 == 0)

/-- The core runs, with a load outstanding or not. -/
def State.runs (s : State) (c : Nat) : Bool :=
  let x := s.core c
  x.wait.isNone && x.storeErr.isNone &&
  (if c = 128 then !s.quince.stopped && (!s.quince.dbgHalted || x.stepping)
   else x.state == .running)

/-- The core can issue any instruction: it runs, its last load has answered, it waits for nothing and no
deferred trap is due (R126, R135, R137, R165, R333). -/
def State.canIssue (s : State) (c : Nat) : Bool := (s.core c).load.isNone && s.runs c

/-- A younger instruction has written the load's destination: the load's data is no longer wanted. -/
def State.supersede (s : State) (c : Nat) (w : Word) : State :=
  s.modCore c (fun x => { x with load := x.load.map (fun l =>
    if l.rd = destOf w then { l with rd := 0 } else l) })

/-- One instruction of core `c`, when it is the one that `mine` names: fetch, the ILLEGAL trap of
R128 before any effect, and then `body c w`. A word that is another instruction leaves the state
unchanged: this command is not that core's next step (log entry 2). Behind an outstanding load, an
instruction that R135 lets issue runs; any other waits for the load. -/
def runInstr (c : Nat) (f : Option Word) (mine : Word → Bool) (body : Nat → Word → State → State)
    (s : State) : State :=
  if s.canIssue c then
    let pc := (s.core c).pc
    match s.fetch c f with
    | (.trap e, s1) => s1.trap c e pc pc
    | (.word w, s1) =>
      if !wordDefined w then s1.trap c .illegal pc w
      else if !mine w then s
      else if !legal c w then s1.trap c .illegal pc w
      else body c w s1
  else if s.runs c then
    match (s.core c).load, s.fetch c f with
    | some l, (.word w, s1) =>
      if wordDefined w && mine w && s.mayOverlap c l w then (body c w s1).supersede c w else s
    | _, _ => s
  else s

/-- The address after the present instruction. -/
def State.pc4 (s : State) (c : Nat) : Word := (s.core c).pc + 4

/-- The effective address of a load, a store or a tap access: ra + sext(imm18) (R132, R144). -/
def State.eaI (s : State) (c : Nat) (w : Word) : Word := s.reg c (raF w) + immS w
/-- The same, for format S. -/
def State.eaS (s : State) (c : Nat) (w : Word) : Word := s.reg c (raS w) + immS w

/-- The release rule holds: every earlier store has been performed (R135). -/
def State.released (s : State) (c : Nat) : Bool := (s.core c).stores.isEmpty

end Sys2Proof.Machine
end

