-- ==== Sys2Proof/Machine/Flags.lean ====
section
/-! DEFINITION. The results that stand in for flags: the NQ128 has none (R125), so comparisons give 0
or 1, and queue and tap operations give a status word (R142). -/

namespace Sys2Proof.Machine

/-- 1 or 0 in a register (R125, R130). -/
def boolWord (b : Bool) : Word := if b then 1 else 0

/-- Signed less-than (R130). -/
def ltS (a b : Word) : Bool := decide (a.toInt < b.toInt)

/-- Unsigned less-than (R130). -/
def ltU (a b : Word) : Bool := decide (a.toNat < b.toNat)

/-- The status word of R142: code in [3:0], src in [7:4]. -/
def statusWord (code src : Nat) : Word := word (code % 16 + (src % 16) * 16)

/-- The status codes of R142. -/
def stOk : Nat := 0
def stEmpty : Nat := 1
def stFull : Nat := 2
def stTimeout : Nat := 3
def stKind : Nat := 4
def stDenied : Nat := 5
def stRange : Nat := 6
def stFault : Nat := 7

end Sys2Proof.Machine
end

