-- ==== Sys2Proof/Machine/Alu.lean ====
section
/-! DEFINITION. Arithmetic, logic, immediates, branches and jumps (R129–R131, R138). -/

namespace Sys2Proof.Machine

/-! ### The operations of R130 -/

def aluAdd (a b : Word) : Word := a + b
def aluSub (a b : Word) : Word := a - b
def aluAnd (a b : Word) : Word := a &&& b
def aluOr (a b : Word) : Word := a ||| b
def aluXor (a b : Word) : Word := a ^^^ b
/-- Only bits [4:0] of the distance count. -/
def aluShl (a b : Word) : Word := a <<< (b.toNat % 32)
def aluShr (a b : Word) : Word := a >>> (b.toNat % 32)
def aluSra (a b : Word) : Word := a.sshiftRight (b.toNat % 32)
def aluSlt (a b : Word) : Word := boolWord (ltS a b)
def aluSltu (a b : Word) : Word := boolWord (ltU a b)
def aluMul (a b : Word) : Word := word (a.toNat * b.toNat)
def aluMulhu (a b : Word) : Word := word (a.toNat * b.toNat / 2 ^ 32)
def aluMulhs (a b : Word) : Word := BitVec.ofInt 32 (a.toInt * b.toInt / 2 ^ 32)
/-- All ones when dividing by zero. -/
def aluDivu (a b : Word) : Word := if b = 0 then 0xFFFFFFFF#32 else word (a.toNat / b.toNat)
/-- ra when dividing by zero. -/
def aluRemu (a b : Word) : Word := if b = 0 then a else word (a.toNat % b.toNat)
def aluMin (a b : Word) : Word := if ltS a b then a else b
def aluMax (a b : Word) : Word := if ltS a b then b else a
def aluClz (a _b : Word) : Word := word (leadingZeros 32 a.toNat)
def aluPopc (a _b : Word) : Word := word (popcount 32 a.toNat)
def aluBswap (a _b : Word) : Word := wordOfBytes (byteOf a 3) (byteOf a 2) (byteOf a 1) (byteOf a 0)

/-- An ALU instruction: rd ← ra op rb (R130). -/
def aluBody (op : Word → Word → Word) (c : Nat) (w : Word) (s : State) : State :=
  (s.setReg c (rdF w) (op (s.reg c (raF w)) (s.reg c (rbF w)))).retire c (s.pc4 c)

/-- An immediate instruction: rd ← ra op imm, the immediate extended by `imm` (R129). -/
def immBody (op : Word → Word → Word) (imm : Word → Word) (c : Nat) (w : Word) (s : State) : State :=
  (s.setReg c (rdF w) (op (s.reg c (raF w)) (imm w))).retire c (s.pc4 c)

/-- SHIFTI's distance, imm18[4:0] (R131). -/
def shiftAmount (w : Word) : Word := word (fld w 0 5)

/-- LUI: the immediate in [31:14], zero below (R131). -/
def luiBody (c : Nat) (w : Word) (s : State) : State :=
  (s.setReg c (rdF w) (immZ w <<< 14)).retire c (s.pc4 c)

/-- A conditional branch: pc + 4·sext(imm18) when the condition holds (R129). -/
def branchBody (cond : Word → Word → Bool) (c : Nat) (w : Word) (s : State) : State :=
  if cond (s.reg c (raS w)) (s.reg c (rbS w)) then
    s.retire c ((s.core c).pc + 4 * immS w)
  else s.retire c (s.pc4 c)

/-- JAL: g15 ← pc + 4; pc ← pc + 4·sext(imm26) (R129). -/
def jalBody (c : Nat) (w : Word) (s : State) : State :=
  (s.setReg c 15 (s.pc4 c)).retire c ((s.core c).pc + 4 * imm26S w)

/-- JALR: rd ← pc + 4; pc ← ra + sext(imm18) with ra as it was before the write; a target that is
not a multiple of 4 traps and writes nothing, with ACCESS where the address map holds no such address and with
ALIGN elsewhere (R129, R138, R406). -/
def jalrBody (c : Nat) (w : Word) (s : State) : State :=
  let tgt := s.eaI c w
  if tgt.toNat % 4 ≠ 0 then s.trap c ((mapCheck c tgt).getD .align) (s.core c).pc tgt
  else (s.setReg c (rdF w) (s.pc4 c)).retire c tgt

/-! ### The meanings -/

def execAdd (c : CoreId) (f : Option Word) (s : State) : Result :=
  .next (runInstr c f (isAlu 0) (aluBody aluAdd) s)
def execSub (c : CoreId) (f : Option Word) (s : State) : Result :=
  .next (runInstr c f (isAlu 1) (aluBody aluSub) s)
def execAnd (c : CoreId) (f : Option Word) (s : State) : Result :=
  .next (runInstr c f (isAlu 2) (aluBody aluAnd) s)
def execOr (c : CoreId) (f : Option Word) (s : State) : Result :=
  .next (runInstr c f (isAlu 3) (aluBody aluOr) s)
def execXor (c : CoreId) (f : Option Word) (s : State) : Result :=
  .next (runInstr c f (isAlu 4) (aluBody aluXor) s)
def execShl (c : CoreId) (f : Option Word) (s : State) : Result :=
  .next (runInstr c f (isAlu 5) (aluBody aluShl) s)
def execShr (c : CoreId) (f : Option Word) (s : State) : Result :=
  .next (runInstr c f (isAlu 6) (aluBody aluShr) s)
def execSra (c : CoreId) (f : Option Word) (s : State) : Result :=
  .next (runInstr c f (isAlu 7) (aluBody aluSra) s)
def execSlt (c : CoreId) (f : Option Word) (s : State) : Result :=
  .next (runInstr c f (isAlu 8) (aluBody aluSlt) s)
def execSltu (c : CoreId) (f : Option Word) (s : State) : Result :=
  .next (runInstr c f (isAlu 9) (aluBody aluSltu) s)
def execMul (c : CoreId) (f : Option Word) (s : State) : Result :=
  .next (runInstr c f (isAlu 10) (aluBody aluMul) s)
def execMulhu (c : CoreId) (f : Option Word) (s : State) : Result :=
  .next (runInstr c f (isAlu 11) (aluBody aluMulhu) s)
def execMulhs (c : CoreId) (f : Option Word) (s : State) : Result :=
  .next (runInstr c f (isAlu 12) (aluBody aluMulhs) s)
def execDivu (c : CoreId) (f : Option Word) (s : State) : Result :=
  .next (runInstr c f (isAlu 13) (aluBody aluDivu) s)
def execRemu (c : CoreId) (f : Option Word) (s : State) : Result :=
  .next (runInstr c f (isAlu 14) (aluBody aluRemu) s)
def execMin (c : CoreId) (f : Option Word) (s : State) : Result :=
  .next (runInstr c f (isAlu 15) (aluBody aluMin) s)
def execMax (c : CoreId) (f : Option Word) (s : State) : Result :=
  .next (runInstr c f (isAlu 16) (aluBody aluMax) s)
def execClz (c : CoreId) (f : Option Word) (s : State) : Result :=
  .next (runInstr c f (isAlu 17) (aluBody aluClz) s)
def execPopc (c : CoreId) (f : Option Word) (s : State) : Result :=
  .next (runInstr c f (isAlu 18) (aluBody aluPopc) s)
def execBswap (c : CoreId) (f : Option Word) (s : State) : Result :=
  .next (runInstr c f (isAlu 19) (aluBody aluBswap) s)
def execAddi (c : CoreId) (f : Option Word) (s : State) : Result :=
  .next (runInstr c f (isOp 0x01) (immBody aluAdd immS) s)
def execAndi (c : CoreId) (f : Option Word) (s : State) : Result :=
  .next (runInstr c f (isOp 0x02) (immBody aluAnd immZ) s)
def execOri (c : CoreId) (f : Option Word) (s : State) : Result :=
  .next (runInstr c f (isOp 0x03) (immBody aluOr immZ) s)
def execXori (c : CoreId) (f : Option Word) (s : State) : Result :=
  .next (runInstr c f (isOp 0x04) (immBody aluXor immZ) s)
def execSlti (c : CoreId) (f : Option Word) (s : State) : Result :=
  .next (runInstr c f (isOp 0x05) (immBody aluSlt immS) s)
def execShiftiShl (c : CoreId) (f : Option Word) (s : State) : Result :=
  .next (runInstr c f (isShifti 0) (immBody aluShl shiftAmount) s)
def execShiftiShr (c : CoreId) (f : Option Word) (s : State) : Result :=
  .next (runInstr c f (isShifti 1) (immBody aluShr shiftAmount) s)
def execShiftiSra (c : CoreId) (f : Option Word) (s : State) : Result :=
  .next (runInstr c f (isShifti 2) (immBody aluSra shiftAmount) s)
def execLui (c : CoreId) (f : Option Word) (s : State) : Result :=
  .next (runInstr c f (isOp 0x07) luiBody s)
def execBeq (c : CoreId) (f : Option Word) (s : State) : Result :=
  .next (runInstr c f (isOp 0x10) (branchBody (fun a b => decide (a = b))) s)
def execBne (c : CoreId) (f : Option Word) (s : State) : Result :=
  .next (runInstr c f (isOp 0x11) (branchBody (fun a b => decide (a ≠ b))) s)
def execBlt (c : CoreId) (f : Option Word) (s : State) : Result :=
  .next (runInstr c f (isOp 0x12) (branchBody ltS) s)
def execBge (c : CoreId) (f : Option Word) (s : State) : Result :=
  .next (runInstr c f (isOp 0x13) (branchBody (fun a b => !ltS a b)) s)
def execBltu (c : CoreId) (f : Option Word) (s : State) : Result :=
  .next (runInstr c f (isOp 0x14) (branchBody ltU) s)
def execBgeu (c : CoreId) (f : Option Word) (s : State) : Result :=
  .next (runInstr c f (isOp 0x15) (branchBody (fun a b => !ltU a b)) s)
def execJal (c : CoreId) (f : Option Word) (s : State) : Result :=
  .next (runInstr c f (isOp 0x16) jalBody s)
def execJalr (c : CoreId) (f : Option Word) (s : State) : Result :=
  .next (runInstr c f (isOp 0x17) jalrBody s)

end Sys2Proof.Machine
end

