-- ==== Sys2Proof/Machine/Wires.lean ====
section
/-! DEFINITION. The fabric as a network of elements that exchange four-phase handshakes: cells, carry
lanes, memory-group write ports, lanes, pips, welts, spines and port lanes, read off the
configuration frames (R25–R68), and one step of each element (R10, R11, R30, R32). -/

namespace Sys2Proof.Machine

/-! ### Where things are (R17, R27, R52–R54, R275) -/

/-- A bit field of a number. -/
def nfld (v lo len : Nat) : Nat := (v >>> lo) % 2 ^ len

/-- The address of a frame (R275). -/
def frameAddr (t kind idx : Nat) : Nat := t * 0x100000 + kind * 0x20000 + idx

def tileX (t : Nat) : Nat := t % 8 + 8 * (t / 32 % 2)
def tileY (t : Nat) : Nat := t / 8 % 4 + 4 * (t / 64)
def tileAt (x y : Nat) : Nat := 32 * (x / 8 + 2 * (y / 4)) + 8 * (y % 4) + x % 8

def clX (c : Nat) : Nat := c % 32
def clY (c : Nat) : Nat := c / 32

/-- An edge cluster (R27). -/
def edgeCluster (c : Nat) : Bool := clX c == 0 || clX c == 31 || clY c == 0 || clY c == 31

/-- The length of lane `l` in cluster pitches (R52). -/
def laneLen (l : Nat) : Nat := if l < 8 then 1 else if l < 24 then 4 else 16

/-- The direction of lane `l`: 0 north, 1 east, 2 south, 3 west (R52). -/
def laneDir (l : Nat) : Nat := if l < 8 then l / 2 else if l < 24 then (l - 8) / 4 else (l - 24) / 2

/-- The cluster `n` pitches from cluster `c` of tile `t` in direction `d`, if it is on the grid (R54, R55). -/
def clusterFrom (t c d n : Nat) : Option (Nat × Nat) :=
  let gx := 32 * tileX t + clX c
  let gy := 32 * tileY t + clY c
  let go (x y : Nat) : Option (Nat × Nat) :=
    if x < 512 ∧ y < 256 then some (tileAt (x / 32) (y / 32), 32 * (y % 32) + x % 32) else none
  if d = 0 then go gx (gy + n)
  else if d = 1 then go (gx + n) gy
  else if d = 2 then (if n ≤ gy then go gx (gy - n) else none)
  else (if n ≤ gx then go (gx - n) gy else none)

/-- Where outgoing lane `l` of cluster `c` ends (R53). -/
def laneFar (t c l : Nat) : Option (Nat × Nat) := clusterFrom t c (laneDir l) (laneLen l)

/-- Where the lane that ends as incoming lane `l` of cluster `c` starts (R53). -/
def laneNear (t c l : Nat) : Option (Nat × Nat) := clusterFrom t c ((laneDir l + 2) % 4) (laneLen l)

/-! ### Numbers of the elements -/

def cellNode (t c k : Nat) : Nat := 262144 * t + 16 * c + k
def carryNode (t c k : Nat) : Nat := 262144 * t + 16384 + 16 * c + k
def writeNode (t c : Nat) : Nat := 262144 * t + 32768 + c
def laneNode (t c l : Nat) : Nat := 262144 * t + 33792 + 32 * c + l
/-- A length-4 pip is numbered by the cluster at its far end, a run pip by the driving cluster (R68). -/
def pipNode (t c l : Nat) : Nat := 262144 * t + 66560 + 32 * c + l
def weltNode (t c l : Nat) : Nat := 262144 * t + 99328 + 32 * c + l
def spineNode (t sp : Nat) : Nat := 262144 * t + 132096 + sp
def outNode (t p l : Nat) : Nat := 262144 * t + 132224 + 16 * p + l
def inNode (t p l : Nat) : Nat := 262144 * t + 132736 + 16 * p + l
def paceNode (n : Nat) : Nat := 262144 * 128 + n

/-! ### The cell word (R25, R38, R60) -/

/-- The configuration word of cell `k` of a cluster (R25, R276). -/
def State.cellWord (s : State) (t c k : Nat) : Nat :=
  nfld (s.frame (frameAddr t 0 c)).toNat (128 * k) 128

def cwLut (w : Nat) : Nat := nfld w 0 16
def cwMode (w : Nat) : Nat := nfld w 16 3
def cwCarry (w : Nat) : Bool := w.testBit 19
/-- The source of input `i`: a, b, c, d. -/
def cwSel (w i : Nat) : Nat := nfld w (24 + 6 * i) 6
def cwRoute (w j : Nat) : Bool := w.testBit (48 + j)
def cwPip (w j : Nat) : Bool := w.testBit (56 + j)
def cwSbox (w n : Nat) : Bool := w.testBit (64 + n)
def cwEndLo (w : Nat) : Bool := w.testBit 96
def cwEndHi (w : Nat) : Bool := w.testBit 97
def cwRunPip (w : Nat) : Bool := w.testBit 98
def cwPortOut (w : Nat) : Bool := w.testBit 99
def cwRole (w : Nat) : Nat := nfld w 112 3
def cwOrder (w : Nat) : Nat := nfld w 115 2

/-- The receiver of incoming lane `i` is on (R59, R60). -/
def State.endEn (s : State) (t c i : Nat) : Bool :=
  let w := s.cellWord t c (i / 2)
  if i % 2 = 0 then cwEndLo w else cwEndHi w

/-- The pip of outgoing lane `l` is enabled (R68). A length-4 pip goes with the driving cluster's frame: when a
region load clears that frame, the pip is bypassed at once (DESIGN CHOICE, log entry 90). -/
def State.pipOn (s : State) (t c l : Nat) : Bool :=
  if l < 8 then false
  else if l < 24 then cwPip (s.cellWord t c (l % 4)) (l / 4)
  else cwRunPip (s.cellWord t c (l - 24))

/-- What drives an outgoing lane (R56–R58). -/
inductive LaneSrc where
  | cell (k : Nat)
  | lane (i : Nat)
  | none
deriving DecidableEq, Repr

def State.laneSrc (s : State) (t c l : Nat) : LaneSrc :=
  match (List.range 4).find? (fun m => cwRoute (s.cellWord t c (l % 4 + 4 * m)) (l / 4)) with
  | some m => .cell (l % 4 + 4 * m)
  | none =>
    match (List.range 16).find? (fun b =>
        cwSbox (s.cellWord t c (l % 4 + 4 * (b / 4))) (4 * (l / 4) + b % 4)) with
    | some b => .lane ((l + 2 * b) % 32)
    | none => .none

/-! ### Ports (R61) -/

/-- The cluster and the cell whose output drives outward lane `l` of port `p` (0–15 taps, 16–31
eyelets); the same index of the cluster's sources 59–62 reads the inward lane. -/
def portCluster (p l : Nat) : Nat × Nat :=
  if p < 16 then
    if l = 15 then
      ((if p < 4 then 0 else if p < 8 then 31 else if p < 12 then 992 else 1023), p % 4)
    else
      let n := 15 * (p % 8) + l
      ((if p < 8 then 0 else 992) + n / 4 + 1, n % 4)
  else
    let n := 15 * (p % 8) + l
    (32 * (n / 4 + 1) + (if p < 24 then 0 else 31), n % 4)

/-- The port lane that source 59 + `i` of cluster `c` reads. -/
def portLane (c i : Nat) : Option (Nat × Nat) :=
  let x := clX c
  let y := clY c
  if (x = 0 ∨ x = 31) ∧ (y = 0 ∨ y = 31) then
    some ((if y = 0 then (if x = 0 then 0 else 4) else (if x = 0 then 8 else 12)) + i, 15)
  else if y = 0 ∨ y = 31 then
    let n := 4 * (x - 1) + i
    some ((if y = 0 then 0 else 8) + n / 15, n % 15)
  else if x = 0 ∨ x = 31 then
    let n := 4 * (y - 1) + i
    some ((if x = 0 then 16 else 24) + n / 15, n % 15)
  else none

/-- Pacer `n` names cluster `c` of tile `t` as its join (R75). -/
def State.joinsAt (s : State) (t c n : Nat) : Bool :=
  n / 16 == t / 32 && decide ((s.pacer n).joinTile.toNat = t % 32) && decide ((s.pacer n).joinCluster.toNat = c)

/-- A handshake of the pace lane of pacer `n` is under way. -/
def State.laneBusy (s : State) (n : Nat) : Bool := (s.node (paceNode n)).out != .spacer || (s.node (paceNode n)).full

/-- The pacer whose token is on source 58 of cluster `c` of tile `t` (R75). Several pacers can name one
cluster while at most one of them is enabled (R77), all of them do at reset; their tokens come to it one
at a time (DESIGN CHOICE, log entry 83). -/
def State.pacerAt (s : State) (t c : Nat) : Option Nat :=
  ((List.range 16).map (fun i => 16 * (t / 32) + i)).find? (fun n => s.joinsAt t c n && s.laneBusy n)

/-- The tile takes pace tokens only in a region that is RUNNING (R89). -/
def State.takesPace (s : State) (t : Nat) : Bool := s.regionState t == .running

/-! ### Seals of welts (R307, R346, R358) -/

/-- A region in this state seals its boundary (R307). -/
def RegionState.seals : RegionState → Bool
  | .running => false
  | .fenced => false
  | _ => true

/-- A region seals the boundary between two tiles of different regions. -/
def State.sealByRegion (s : State) (t u : Nat) : Bool :=
  s.regionOf t != s.regionOf u && ((s.regionState t).seals || (s.regionState u).seals)

/-- A fence seals the boundary of a fenced tile with one that is not (R358). -/
def State.sealByFence (s : State) (t u : Nat) : Bool := (s.tile t).fenced != (s.tile u).fenced

/-- A gated tile's boundary is sealed (R346). -/
def State.sealByGate (s : State) (t u : Nat) : Bool := (s.tile t).power.off || (s.tile u).power.off

def State.sealed (s : State) (t u : Nat) : Bool :=
  s.sealByRegion t u || s.sealByFence t u || s.sealByGate t u

/-- The seal mode that TILECTL frame 1 of tile `t` gives to incoming lane `l` of cluster `c` (R277):
a lane going north enters across side 0 south, east across 3 west, south across 2 north, west across
1 east. -/
def State.sealMode (s : State) (t c l : Nat) : Nat :=
  let d := laneDir l
  let side := if d = 0 then 0 else if d = 1 then 3 else if d = 2 then 2 else 1
  let pos := if d % 2 = 0 then clX c else clY c
  nfld (s.frame (frameAddr t 4 1)).toNat
    (16 * (32 * side + pos) + (if l < 8 then 0 else if l < 24 then 3 else 6)) 3

/-- The cells of the tile are not held: it is powered and not fenced, and its tokens have been placed
(R33, R346, R358). -/
def State.moves (s : State) (t : Nat) : Bool :=
  (s.tile t).power = .on && !(s.tile t).fenced && (s.tile t).fabric != .held

/-- The cells of the tile accept new tokens (R33). -/
def State.live (s : State) (t : Nat) : Bool := s.moves t && (s.tile t).fabric == .live

/-! ### Who consumes what (R11, R36, R59, R63) -/

/-- Cell `k`'s carry-out has a chained successor (R36). -/
def State.carryActive (s : State) (t c k : Nat) : Bool :=
  cwCarry (s.cellWord t c k) &&
  (if k < 15 then cwCarry (s.cellWord t c (k + 1))
   else clY c < 31 && cwCarry (s.cellWord t (c + 32) 0))

/-- The elements that consume input `i` of cell `k`. -/
def State.inputReaders (s : State) (t c k i : Nat) : List Nat :=
  let w := s.cellWord t c k
  if cwMode w = 4 then (if cwRole w = 1 then [cellNode t c k] else [writeNode t c])
  else if cwCarry w && i == 3 then []
  else cellNode t c k :: (if s.carryActive t c k then [carryNode t c k] else [])

/-- The elements of cluster `c` whose selectors choose source `src`. -/
def State.readers (s : State) (t c src : Nat) : List Nat :=
  (List.range 16).flatMap (fun k => (List.range 4).flatMap (fun i =>
    if cwSel (s.cellWord t c k) i = src then s.inputReaders t c k i else []))

/-- The first element of an outgoing lane (R68). -/
def State.laneHead (s : State) (t c l : Nat) : Nat :=
  if 24 ≤ l ∧ s.pipOn t c l then pipNode t c l else laneNode t c l

/-- The consumers of incoming lane `i` at its receiver (R59). -/
def State.endReaders (s : State) (t c i : Nat) : List Nat :=
  if !s.endEn t c i then []
  else s.readers t c (16 + i) ++
    ((List.range 32).filter (fun l => s.laneSrc t c l = .lane i)).map (s.laneHead t c)

/-- The consumers of the lane after its welt, if any: its far-end pip or its receiver. -/
def State.farReaders (s : State) (t0 c0 t c l : Nat) : List Nat :=
  if l < 24 ∧ s.pipOn t0 c0 l then [pipNode t c l] else s.endReaders t c l

/-- The consumers of an outgoing lane's wire. -/
def State.laneReaders (s : State) (t c l : Nat) : List Nat :=
  match laneFar t c l with
  | none => []
  | some (t1, c1) => if t1 = t then s.farReaders t c t1 c1 l else [weltNode t1 c1 l]

/-- Cell `k`'s output is selected by tap `p`'s field of spine `sp` (R62, R64). -/
def spineSrc (sp field : Nat) : Nat := (if sp % 2 = 0 then 0 else 8) + field % 8

/-- The 4-bit field of tap `p` of spine `sp` (R64). -/
def State.spineTap (s : State) (t sp p : Nat) : Nat :=
  nfld (s.frame (frameAddr t 1 (sp / 16))).toNat (128 * (sp % 16) + 4 * p) 4

/-- The cluster of tap `p` of spine `sp` (R62). -/
def spineCluster (sp p : Nat) : Nat :=
  if sp < 64 then 32 * (sp / 2) + p else 32 * p + (sp - 64) / 2

/-- The spines that a cluster's taps drive, each with its tap index (R62). -/
def clusterSpines (c : Nat) : List (Nat × Nat) :=
  [(2 * clY c, clX c), (2 * clY c + 1, clX c), (64 + 2 * clX c, clY c), (65 + 2 * clX c, clY c)]

/-- The spines that select the output of cell `k`. -/
def State.spinesOf (s : State) (t c k : Nat) : List Nat :=
  ((clusterSpines c).filter (fun (sp, p) =>
    let f := s.spineTap t sp p
    decide (8 ≤ f) && decide (spineSrc sp f = k))).map (fun (sp, _) => spineNode t sp)

/-- The consumers of cell `k`'s output: selectors, lanes, spines and its port lane. -/
def State.cellReaders (s : State) (t c k : Nat) : List Nat :=
  let w := s.cellWord t c k
  s.readers t c k ++
  ((List.range 8).filter (fun j => cwRoute w j)).map (fun j => s.laneHead t c (4 * j + k % 4)) ++
  s.spinesOf t c k ++
  (if cwPortOut w && decide (12 ≤ k) then
    match portLane c (k - 12) with
    | some (p, l) => [outNode t p l]
    | none => []
   else [])

/-- The consumers of a carry-out: the successor's output and carry (R35, R36). -/
def State.carryReaders (s : State) (t c k : Nat) : List Nat :=
  if !s.carryActive t c k then []
  else
    let (c1, k1) := if k < 15 then (c, k + 1) else (c + 32, 0)
    cellNode t c1 k1 :: (if s.carryActive t c1 k1 then [carryNode t c1 k1] else [])

/-- The clusters that read spine `sp` (R63). -/
def spineClusters (sp : Nat) : List Nat :=
  (List.range 1024).filter (fun c => (clX c + clY c) % 16 = sp % 16)

/-- The cell selectors of the tile that select spine `sp` (R63). -/
def State.spineReaders (s : State) (t sp : Nat) : List Nat :=
  (spineClusters sp).flatMap (fun c => s.readers t c (48 + sp / 16))

/-! ### What an input sees -/

/-- The rails of incoming lane `i` at its receiver. -/
def State.laneRail (s : State) (t c i : Nat) : Rail :=
  if !s.endEn t c i then .spacer
  else match laneNear t c i with
    | none => .spacer
    | some (t0, c0) =>
      if i < 24 ∧ s.pipOn t0 c0 i then (s.node (pipNode t c i)).out
      else if t0 ≠ t then (s.node (weltNode t c i)).out
      else (s.node (laneNode t0 c0 i)).out

/-- A constant source offers its token until its consumer acknowledges (R28). -/
def constRail (v selfAck : Bool) : Rail := if selfAck then .spacer else .tok v

/-- The rails of source `src` at cluster `c`, for a consumer whose acknowledge is `selfAck` (R26). -/
def State.srcRail (s : State) (t c src : Nat) (selfAck : Bool) : Rail :=
  if src < 16 then (s.node (cellNode t c src)).out
  else if src < 48 then s.laneRail t c (src - 16)
  else if src < 56 then
    (s.node (spineNode t (16 * (src - 48) + (clX c + clY c) % 16))).out
  else if src = 56 then constRail false selfAck
  else if src = 57 then constRail true selfAck
  else if src = 58 then
    match s.pacerAt t c with
    | some n => if s.takesPace t then (s.node (paceNode n)).out else .spacer
    | none => .spacer
  else match portLane c (src - 59) with
    | some (p, l) => if edgeCluster c then (s.node (inNode t p l)).out else .spacer
    | none => .spacer

/-- The carry-in of cell `k` (R36). -/
def State.cinRail (s : State) (t c k : Nat) (selfAck : Bool) : Rail :=
  if 0 < k then
    if cwCarry (s.cellWord t c (k - 1)) then (s.node (carryNode t c (k - 1))).out
    else constRail false selfAck
  else if 32 ≤ c then
    if cwCarry (s.cellWord t (c - 32) 15) then (s.node (carryNode t (c - 32) 15)).out
    else constRail false selfAck
  else constRail false selfAck

/-- The rails of the used inputs of cell `k`, by input number; input 3 is the carry-in of a chained
cell (R29, R35). -/
def State.cellInputs (s : State) (t c k : Nat) (selfAck : Bool) : List (Nat × Rail) :=
  let w := s.cellWord t c k
  ((List.range (if cwCarry w then 3 else 4)).filter (fun i => cwSel w i ≠ 63)).map
    (fun i => (i, s.srcRail t c (cwSel w i) selfAck)) ++
  (if cwCarry w then [(3, s.cinRail t c k selfAck)] else [])

def Rail.isTok : Rail → Bool
  | .tok _ => true
  | _ => false

def Rail.bit : Rail → Bool
  | .tok v => v
  | _ => false

/-- Every used input carries a token; a cell with no used input never completes (R30, R31). -/
def complete (l : List (Nat × Rail)) : Bool := !l.isEmpty && l.all (fun p => p.2.isTok)

/-- Every used input is at spacer. -/
def allSpacer (l : List (Nat × Rail)) : Bool := l.all (fun p => p.2 = .spacer)

/-- The value of input `i`; an unused input counts as 0 (R29). -/
def inBit (l : List (Nat × Rail)) (i : Nat) : Bool :=
  match l.find? (fun p => p.1 = i) with
  | some p => p.2.bit
  | none => false

/-- The index c·4 + b·2 + a of the three shared inputs. -/
def abcIndex (l : List (Nat × Rail)) : Nat := b2n (inBit l 0) + 2 * b2n (inBit l 1) + 4 * b2n (inBit l 2)

/-- The output of a cell (R29, R35). -/
def cellValue (w : Nat) (l : List (Nat × Rail)) : Bool :=
  if cwCarry w then (cwLut w).testBit (8 + abcIndex l) != inBit l 3
  else (cwLut w).testBit (8 * b2n (inBit l 3) + abcIndex l)

/-- The carry-out of a cell (R35). -/
def carryValue (w : Nat) (l : List (Nat × Rail)) : Bool :=
  if (cwLut w).testBit (abcIndex l) then inBit l 3 else inBit l 0

/-! ### Steps of an element -/

/-- All of the listed consumers have raised their acknowledges (R11). -/
def State.acked (s : State) (l : List Nat) : Bool := l.all (fun k => (s.node k).ack)
/-- All of the listed consumers have lowered their acknowledges (R11). -/
def State.unacked (s : State) (l : List Nat) : Bool := l.all (fun k => !(s.node k).ack)

/-- An element that holds nothing: its output follows its inputs under completion, and its
acknowledge is the join of its consumers', or follows its output when it has none (R11, R30, R40, R59). -/
def State.stepWire (s : State) (k : Nat) (ready spacers v : Bool) (rd : List Nat) : State :=
  let n := s.node k
  let out := if n.out = .spacer then (if ready then .tok v else .spacer)
    else if spacers then .spacer else n.out
  let ack := if rd.isEmpty then decide (out ≠ .spacer)
    else if s.acked rd then true else if s.unacked rd then false else n.ack
  s.setNode k { n with out := out, ack := ack }

/-- The output half of a buffer: the token returns to spacer once it is acknowledged, and the
handshake is complete once the acknowledges have fallen (R10, R11). -/
def State.stepOut (s : State) (k : Nat) (rd : List Nat) : State :=
  let n := s.node k
  if n.out ≠ .spacer then (if s.acked rd then s.setNode k { n with out := .spacer } else s)
  else if n.full ∧ s.unacked rd then s.setNode k { n with full := false }
  else s

/-- The input half of a buffer (R32): capture when the inputs are complete and the output handshake
is done; the acknowledge falls when the inputs are at spacer. -/
def State.stepIn (s : State) (k : Nat) (may ready spacers v : Bool) : State :=
  let n := s.node k
  if n.ack then (if spacers then s.setNode k { n with ack := false } else s)
  else if may && ready && !n.full then s.setNode k { out := .tok v, ack := true, full := true }
  else s

/-- A buffer's step: its output half, then its input half. -/
def State.stepBuffer (s : State) (k : Nat) (rd : List Nat) (may ready spacers v : Bool) : State :=
  (s.stepOut k rd).stepIn k may ready spacers v

/-- A handshake of a stage of tile `t` counts when its input acknowledge has fallen (R49). -/
def State.countToken (s s1 : State) (t k : Nat) : State :=
  if (s.node k).ack && !(s1.node k).ack then s1.modTile t (fun x => { x with tokCount := x.tokCount + 1 })
  else s1

/-- The MEM read cells of a cluster as a mask (R39). -/
def State.readMask (s : State) (t c : Nat) : Nat :=
  ((List.range 8).filter (fun k => cwMode (s.cellWord t c k) = 4)).foldl (fun m k => m + 2 ^ k) 0

/-- The order mode of a cluster's memory group (R38, R42). -/
def State.memOrder (s : State) (t c : Nat) : Nat := cwOrder (s.cellWord t c 8)

/-- A read cell may evaluate: always in FREE; in an ordered mode once in each round, and under
WRITE_FIRST not before the first write (R42). -/
def State.mayRead (s : State) (t c k : Nat) : Bool :=
  let o := s.memOrder t c
  let r := s.turn (1024 * t + c)
  o == 0 || (!r.reads.getLsbD k && (o != 2 || r.wrote))

/-- The write port may accept: always in FREE; in an ordered mode once every read cell has read since
the previous write, and under WRITE_FIRST also as the first operation (R42). -/
def State.mayPut (s : State) (t c : Nat) : Bool :=
  let o := s.memOrder t c
  let r := s.turn (1024 * t + c)
  o == 0 || decide (r.reads.toNat = s.readMask t c) || (o == 2 && !r.wrote)

/-- Cell `k`'s output: LUT, token register or read port (R30, R32, R41). The outputs of cells 8, 10
and 11 of a memory group stay at spacer, and cell 9's belongs to the write port (R40). -/
def State.stepCell (s : State) (t c k : Nat) : State :=
  if !s.moves t then s
  else
    let w := s.cellWord t c k
    let key := cellNode t c k
    let l := s.cellInputs t c k (s.node key).ack
    let rd := s.cellReaders t c k
    if cwMode w = 4 then
      if cwRole w = 1 then
        let s1 := s.stepWire key (complete l && s.mayRead t c k) (allSpacer l) (cellValue w l) rd
        if (s.node key).ack && !(s1.node key).ack && s.memOrder t c != 0 then
          s1.modTurn (1024 * t + c) (fun r => { r with reads := r.reads ||| BitVec.ofNat 8 (2 ^ k) })
        else s1
      else s
    else if cwMode w = 0 then s.stepWire key (complete l) (allSpacer l) (cellValue w l) rd
    else s.countToken (s.stepBuffer key rd (s.live t) (complete l) (allSpacer l) (cellValue w l)) t key

/-- The carry-out of cell `k` (R35, R36); a discarded one stays at spacer (R45). -/
def State.stepCarry (s : State) (t c k : Nat) : State :=
  if !s.moves t || !s.carryActive t c k then s
  else
    let w := s.cellWord t c k
    let key := carryNode t c k
    let l := s.cellInputs t c k (s.node key).ack
    s.stepWire key (complete l) (allSpacer l) (carryValue w l) (s.carryReaders t c k)

/-- The thirteen inputs of a write port, numbered 4·(cell − 8) + input (R40). -/
def State.writeInputs (s : State) (t c : Nat) (selfAck : Bool) : List (Nat × Rail) :=
  (List.range 4).flatMap (fun j =>
    let w := s.cellWord t c (8 + j)
    ((List.range 4).filter (fun i => cwSel w i ≠ 63)).map
      (fun i => (4 * j + i, s.srcRail t c (cwSel w i) selfAck)))

/-- The four bits of inputs `j`, … as a number. -/
def nibble (l : List (Nat × Rail)) (j : Nat) : Nat :=
  b2n (inBit l j) + 2 * b2n (inBit l (j + 1)) + 4 * b2n (inBit l (j + 2)) + 8 * b2n (inBit l (j + 3))

/-- The frame with bit `a` of the lut of MEM read cell `k` set to `v` (R44). -/
def storeBit (f : Frame) (k a : Nat) (v : Bool) : Frame :=
  let m : Frame := BitVec.ofNat 2048 (2 ^ (128 * k + a))
  if v then f ||| m else f &&& ~~~m

/-- The data of a write put into the read cells (R40, R44). -/
def State.putBits (s : State) (t c a d : Nat) : State :=
  s.modFrame (frameAddr t 0 c) (fun f =>
    (List.range 8).foldl (fun f k =>
      if cwMode (s.cellWord t c k) = 4 then storeBit f k a (d.testBit k) else f) f)

/-- The write port of a memory group (R40, R42): cell 9's node is its output. -/
def State.stepWrite (s : State) (t c : Nat) : State :=
  if !s.moves t || cwMode (s.cellWord t c 8) ≠ 4 then s
  else
    let key := writeNode t c
    let out := cellNode t c 9
    let s1 := s.stepOut out (s.cellReaders t c 9)
    let n := s1.node key
    let l := s1.writeInputs t c n.ack
    if n.ack then
      (if allSpacer l then s1.countToken (s1.setNode key { n with ack := false }) t key else s1)
    else if s1.live t && complete l && !(s1.node out).full && s1.mayPut t c then
      let en := inBit l 4
      let s2 := if en then s1.putBits t c (nibble l 0) (nibble l 8 + 16 * nibble l 12) else s1
      let s3 := if s1.memOrder t c = 0 then s2
        else s2.setTurn (1024 * t + c) { reads := 0, wrote := true }
      (s3.setNode key { n with ack := true }).setNode out { (s3.node out) with out := .tok en, full := true }
    else s1

/-- The rails at the multiplexer of an outgoing lane (R58). -/
def State.muxRail (s : State) (t c l : Nat) : Rail :=
  match s.laneSrc t c l with
  | .cell k => (s.node (cellNode t c k)).out
  | .lane i => s.laneRail t c i
  | .none => .spacer

/-- The wire of an outgoing lane, from its multiplexer or its entry pip. -/
def State.stepLane (s : State) (t c l : Nat) : State :=
  if !s.moves t then s
  else
    let r := if 24 ≤ l ∧ s.pipOn t c l then (s.node (pipNode t c l)).out else s.muxRail t c l
    s.stepWire (laneNode t c l) r.isTok (r = .spacer) r.bit (s.laneReaders t c l)

/-- The pip of outgoing lane `l`: at the run's entry, or at the far end of a length-4 lane (R68). Before
ENABLE_WRITES it takes tokens: R33 names the cells that take none, and a pip is none of them (DESIGN CHOICE, log
entry 89). -/
def State.stepPip (s : State) (t c l : Nat) : State :=
  if !s.pipOn t c l then s
  else if 24 ≤ l then
    if !s.moves t then s
    else
      let r := s.muxRail t c l
      s.stepBuffer (pipNode t c l) [laneNode t c l] true r.isTok (r = .spacer) r.bit
  else match laneFar t c l with
    | none => s
    | some (t1, c1) =>
      if !s.moves t1 then s
      else
        let r := if t1 = t then (s.node (laneNode t c l)).out else (s.node (weltNode t1 c1 l)).out
        s.stepBuffer (pipNode t1 c1 l) (s.endReaders t1 c1 l) true r.isTok (r = .spacer) r.bit

/-- A discarded token is counted (R365). -/
def State.countDrain (s : State) (t : Nat) : State :=
  s.modTile t (fun x => { x with drained := sat 0xFFFF (x.drained + 1) })

/-- The welt on incoming lane `l` of cluster `c` of tile `t`: an empty stage while open; while sealed,
its two halves act by the seal mode, each at its own handshake boundary (R54, R307, R309). An open welt of a tile
that is not past ENABLE_WRITES takes tokens as a pip does (DESIGN CHOICE, log entry 89). -/
def State.stepWelt (s : State) (t c l : Nat) : State :=
  match laneNear t c l with
  | none => s
  | some (t0, c0) =>
    if t0 = t then s
    else
      let key := weltNode t c l
      let r := (s.node (laneNode t0 c0 l)).out
      let rd := s.farReaders t0 c0 t c l
      if !s.sealed t t0 then s.stepBuffer key rd true r.isTok (r = .spacer) r.bit
      else
        let m := s.sealMode t c l
        let s1 := if s.moves t then s.stepOut key rd else s
        let n := s1.node key
        let s2 := if (m = 2 ∨ m = 3) ∧ s1.moves t ∧ n.out = .spacer ∧ !n.full then
            s1.setNode key { n with out := .tok (m == 3), full := true }
          else s1
        let n2 := s2.node key
        if n2.ack then (if r = .spacer then s2.setNode key { n2 with ack := false } else s2)
        else if m = 4 ∧ r.isTok then (s2.setNode key { n2 with ack := true }).countDrain t
        else s2

/-- Rails that two drivers of one spine make together (R66). -/
def Rail.join : Rail → Rail → Rail
  | .spacer, r => r
  | r, .spacer => r
  | .tok a, .tok b => if a = b then .tok a else .illegal
  | .illegal, _ => .illegal
  | _, .illegal => .illegal

/-- The taps that drive spine `sp`, by its frame and by an upset (R64, R66). -/
def State.spineTaps (s : State) (t sp : Nat) (upset : Option Nat) : List Nat :=
  (List.range 32).filter (fun p => decide (8 ≤ s.spineTap t sp p) || upset == some p)

/-- The code checker of a spine or a cell reports a fault (R12, R45, R66). -/
def State.reportCode (s : State) (code t index cell : Nat) (carry illegal : Bool) : State :=
  s.report { Report.of code with
    tile := t, index := index, cell := cell, detail := word (b2n carry + 2 * b2n illegal) }

/-- What the checker of a spine sees besides the legal changes of its rails: the code 0b11, once as long as
it stands, or the other token value without a spacer between (R66, R355). -/
def spineTrips (was now : Rail) : Bool :=
  match was, now with
  | .illegal, .illegal => false
  | _, .illegal => true
  | .tok a, .tok b => a != b
  | _, _ => false

/-- A spine (R62–R66). -/
def State.stepSpine (s : State) (t sp : Nat) (upset : Option Nat) : State :=
  if !s.moves t then s
  else
    let key := spineNode t sp
    let r : Rail := (s.spineTaps t sp upset).foldl (fun (r : Rail) (p : Nat) =>
      r.join (s.node (cellNode t (spineCluster sp p) (spineSrc sp (s.spineTap t sp p)))).out) Rail.spacer
    if spineTrips (s.node key).out r then
      (s.modNode key (fun n => { n with out := r })).reportCode 0x02 t sp 0 false (r = .illegal)
    else if r = .illegal then s
    else s.stepWire key r.isTok (r = .spacer) r.bit (s.spineReaders t sp)

/-! ### Port lanes (R61, R145) -/

/-- The rails that the fabric drives on outward lane `l` of port `p`. -/
def State.outwardRail (s : State) (t p l : Nat) : Rail :=
  let (c, i) := portCluster p l
  if cwPortOut (s.cellWord t c (12 + i)) then (s.node (cellNode t c (12 + i))).out else .spacer

/-- The token that waits on an outward lane, not yet taken. -/
def State.outward (s : State) (t p l : Nat) : Option Bool :=
  let n := s.node (outNode t p l)
  if n.ack || n.full then none
  else match s.outwardRail t p l with
    | .tok v => some v
    | _ => none

/-- PERT_BP acts on port `p` of tile `t` (R384). -/
def State.bpOn (s : State) (t p : Nat) : Bool :=
  s.pert.en.getLsbD 1 && decide (fld s.pert.bp 0 7 = t) &&
    decide ((if bitOf s.pert.bp 7 then 16 else 0) + fld s.pert.bp 8 4 = p)

/-- The port acknowledges outward lanes: at once, or held back by PERT_BP for the first `n` of each
group of `m` handshakes (R384). -/
def State.takeOutward (s : State) (t p : Nat) (lanes : List Nat) : State :=
  let ackAll := fun (s : State) => lanes.foldl (fun s l =>
    s.modNode (outNode t p l) (fun n => { n with ack := true })) s
  if !s.bpOn t p then ackAll s
  else
    let n := fld s.pert.bp 12 4
    let m0 := fld s.pert.bp 16 4
    let m := if m0 = 0 ∨ m0 < n then n else m0
    let i := s.wires.bpCount
    let s1 := { s with wires := { s.wires with bpCount := if m ≤ i + 1 then 0 else i + 1 } }
    if i < n then
      let s2 := lanes.foldl (fun s l => s.modNode (outNode t p l) (fun n => { n with full := true })) s1
      { s2 with wires := { s2.wires with bpHeld := s2.wires.bpHeld ++ lanes.map (outNode t p) } }
    else ackAll s1

/-- The port's acknowledge on an outward lane falls when the lane is at spacer (R10). -/
def State.stepOutward (s : State) (t p l : Nat) : State :=
  let n := s.node (outNode t p l)
  if n.ack ∧ s.outwardRail t p l = .spacer then s.setNode (outNode t p l) { n with ack := false } else s

/-- An inward lane can take a new token: its last handshake is complete. -/
def State.inwardFree (s : State) (t p l : Nat) : Bool :=
  let n := s.node (inNode t p l)
  n.out = .spacer && !n.full

/-- A token offered on an inward lane. -/
def State.offerInward (s : State) (t p l : Nat) (v : Bool) : State :=
  s.setNode (inNode t p l) { out := .tok v, ack := false, full := true }

/-- The offered token of an inward lane goes on; a lane that no selector chooses acknowledges at once
(R145). -/
def State.stepInward (s : State) (t p l : Nat) : State :=
  if !s.moves t then s
  else
    let (c, i) := portCluster p l
    s.stepOut (inNode t p l) (s.readers t c (59 + i))

/-- The word on the outward lanes of tap `j`, once all 16 carry tokens (R145). -/
def State.tapWord (s : State) (t j : Nat) : Option (BitVec 16) :=
  if (List.range 16).all (fun l => (s.outward t j l).isSome) then
    some (BitVec.ofNat 16 ((List.range 16).foldl (fun v l =>
      v + (if s.outward t j l = some true then 2 ^ l else 0)) 0))
  else none

/-- All 16 inward lanes of tap `j` are free (R145). -/
def State.tapFree (s : State) (t j : Nat) : Bool := (List.range 16).all (fun l => s.inwardFree t j l)

/-- A word offered on the inward lanes of tap `j`. -/
def State.offerTap (s : State) (t j : Nat) (d : BitVec 16) : State :=
  (List.range 16).foldl (fun s l => s.offerInward t j l (d.getLsbD l)) s

/-! ### Pace lanes (R75, R81) -/

/-- The tile that holds the join of pacer `n` (R75, R91). -/
def State.paceTile (s : State) (n : Nat) : Nat := 32 * (n / 16) + (s.pacer n).joinTile.toNat

/-- The next issued token moves to the pace lane when the join is free of pace tokens. Its value is open:
the manual gives a pace token none (R76, log entry 7). -/
def State.offerPace (s : State) (n : Nat) : State :=
  let p := s.pacer n
  if !s.laneBusy n ∧ s.pacerAt (s.paceTile n) p.joinCluster.toNat = none ∧ 0 < p.issued then
    let (b, s1) := s.drawBit
    s1.setNode (paceNode n) { out := .tok b, ack := false, full := true }
  else s

/-- The cells that read the pace lane of pacer `n` (R75). -/
def State.paceReaders (s : State) (n : Nat) : List Nat :=
  s.readers (s.paceTile n) (s.pacer n).joinCluster.toNat 58

/-- The pace lane's handshake: a taken token leaves the lane, and the oldest buffered one follows (R81,
R83). While the join's tile is gated, fenced or in a region that is not RUNNING, none is taken (R89). -/
def State.stepPace (s : State) (n : Nat) : State :=
  let t := s.paceTile n
  if !s.moves t || !s.takesPace t then s
  else
    let k := paceNode n
    let s1 := s.stepOut k (s.paceReaders n)
    let s2 := if (s.node k).out ≠ .spacer ∧ (s1.node k).out = .spacer then
        s1.modPacer n (fun p => { p with issued := p.issued - 1, unseen := p.unseen + 1 })
      else s1
    s2.offerPace n

/-! ### Holding, placing and releasing a tile (R33, R306, R309) -/

/-- The number of an element lies in tile `t`. -/
def inTile (t k : Nat) : Bool := k / 262144 == t

/-- A held tile's welt keeps only an acknowledge that a running neighbour still sees (R309). -/
def State.heldNode (s : State) (k : Nat) (n : Node) : Node :=
  let r := k % 262144
  if 99328 ≤ r ∧ r < 132096 then
    match laneNear (k / 262144) ((r - 99328) / 32) ((r - 99328) % 32) with
    | some (t0, _) => if t0 ≠ k / 262144 ∧ s.moves t0 then { n with out := .spacer, full := false }
      else Node.init k
    | none => Node.init k
  else Node.init k

/-- The words that seams offer on the taps of tile `t` go back to their crossings: none is lost or counted
(R210). -/
def State.unofferSeams (t : Nat) (s : State) : State :=
  ((List.range 64).map (fun i => 64 * (t / 32) + i)).foldl (fun s i =>
    if (s.seam i).tile = t % 32 then s.modSeam i (fun g => { g with offered := false, offeredCount := 0 }) else s) s

/-- Every cell of tile `t` is forced to the state before RELEASE_SR, and every output of the tile is at
spacer (R33, R306). A token in a length-4 pip at a far end in another tile stays there (DESIGN CHOICE, log
entry 90). -/
def State.holdTile (s : State) (t : Nat) : State :=
  let s1 := s.modTile t (fun x => { x with fabric := .held, tapTx := [], fOffered := false, fReqs := [], fResps := [] })
  let s2 := { s1.unofferSeams t with wires := { s1.wires with
    turns := s1.wires.turns.filter (fun p => p.1 / 1024 != t)
    bpHeld := s1.wires.bpHeld.filter (fun k => !inTile t k) } }
  ((s2.wires.nodes.map (·.1)).filter (inTile t)).foldl
    (fun s k => s.setNode k (s1.heldNode k (s.node k))) s2

/-- The initial tokens of the TOKEN cells of one cluster frame (R32, R33). -/
def State.placeCluster (s : State) (t c : Nat) : State :=
  (List.range 16).foldl (fun s k =>
    let m := cwMode (s.cellWord t c k)
    if m = 2 ∨ m = 3 then
      s.setNode (cellNode t c k) { out := .tok (m == 3), ack := false, full := true }
    else s) s

/-- The initial tokens of a tile are placed; its cells stay frozen (R33). -/
def State.placeTile (s : State) (t : Nat) : State :=
  if (s.tile t).power = .on ∧ !(s.tile t).fenced then
    let cs := ((s.cfg.frames.map (·.1)).filter (fun k => k / 0x20000 = 8 * t)).map (fun k => k % 0x20000)
    (cs.foldl (fun s c => s.placeCluster t c) s).modTile t (fun x => { x with fabric := .placed })
  else s

/-- The frozen state of a placed tile ends (R33). -/
def State.enableTile (s : State) (t : Nat) : State :=
  s.modTile t (fun x => if x.fabric = .placed then { x with fabric := .live } else x)

end Sys2Proof.Machine
end

