-- ==== Sys2Proof/Machine/Bindings.lean ====
section
/-! DEFINITION. What binds seams and pins to the fabric and to the balls (R203–R206, R226–R231):
the fields of SEAM_CFG and PIN_CFG, the lanes and balls that each uses, and the checks on them. -/

namespace Sys2Proof.Machine

/-! ### SEAM_CFG (R216) -/

def sgKind (v : Word) : Nat := fld v 0 2
/-- The seam is an IN seam. -/
def sgIn (v : Word) : Bool := bitOf v 2
/-- The seam is BOUNDED. -/
def sgBounded (v : Word) : Bool := bitOf v 3
def sgEc (v : Word) : Nat := fld v 4 3
def sgPulses (v : Word) : Bool := bitOf v 7
def sgEdge (v : Word) : Bool := bitOf v 8
def sgSync3 (v : Word) : Bool := bitOf v 9
def sgW (v : Word) : Nat := fld v 10 6 + 1
def sgCad (v : Word) : Nat := fld v 16 4
def sgQual (v : Word) : Nat := fld v 20 2
def sgQualPin (v : Word) : Nat := fld v 22 10

/-- The lanes that a seam uses at its taps (R203, R206, R214). -/
def sgLanes (v : Word) : Nat :=
  if sgKind v = 3 then (if sgIn v && !sgPulses v then 6 else 1) else sgW v

/-- The edge pins that a seam uses (R205, R206, R214). -/
def sgPins (v : Word) : Nat :=
  if sgKind v = 3 then (if !sgIn v && !sgPulses v then 6 else 1) else sgW v

/-- The taps of a seam, ⌈lanes / 16⌉ (R203). -/
def sgTaps (v : Word) : Nat := (sgLanes v + 15) / 16

/-- The tile of seam `i` (R203, R219). -/
def State.seamTile (s : State) (i : Nat) : Nat := 32 * (i / 64) + (s.seam i).tile

/-- Tap `j` of tile `t` belongs to seam `i` with configuration `v` (R203, R204). -/
def State.seamHasTap (s : State) (i : Nat) (v : Word) (t j : Nat) : Bool :=
  sgKind v != 0 && s.seamTile i == t && decide ((s.seam i).tap ≤ j) &&
    decide (j < (s.seam i).tap + sgTaps v)

/-- Pin `p` is an edge pin or the qualifier pin of seam `i` with configuration `v` (R205). -/
def State.seamHasPin (s : State) (i : Nat) (v : Word) (p : Nat) : Bool :=
  sgKind v != 0 &&
    ((decide ((s.seam i).edgeBase ≤ p) && decide (p < (s.seam i).edgeBase + sgPins v)) ||
     (sgQual v != 0 && sgQualPin v == p))

/-- The seam in force that owns a tap (R204). -/
def State.tapSeam (s : State) (t j : Nat) : Option Nat :=
  ((List.range 64).map (fun i => 64 * (t / 32) + i)).find? (fun i => s.seamHasTap i (s.seam i).cfg t j)

/-- The seam in force that names a pin (R205). -/
def State.pinSeam (s : State) (p : Nat) : Option Nat :=
  (List.range 256).find? (fun i => s.seamHasPin i (s.seam i).cfg p)

/-! ### PIN_CFG, PIN_IRQ and the binding entry (R229, R232, R251) -/

def pcMode (v : Word) : Nat := fld v 0 3
def pcStd (v : Word) : Nat := fld v 3 4
def pcDrive (v : Word) : Nat := fld v 7 2
def pcPull (v : Word) : Nat := fld v 10 2
def pcEc (v : Word) : Nat := fld v 24 3
def pcRstLvl (v : Word) : Bool := bitOf v 27
def pcRcfg (v : Word) : Nat := fld v 28 2

def pbTile (b : BitVec 16) : Nat := fld b 0 5
def pbTap (b : BitVec 16) : Nat := fld b 5 4
def pbLane (b : BitVec 16) : Nat := fld b 9 4
def pbOe (b : BitVec 16) : Nat := fld b 13 2
def pbBound (b : BitVec 16) : Bool := bitOf b 15

/-- The quadrant of a bank and of a pin (R18). -/
def bankQuadrant (b : Nat) : Nat :=
  if b ≤ 1 ∨ b = 11 then 0 else if b ≤ 4 then 1 else if b ≤ 7 then 3 else 2
def pinQuadrant (p : Nat) : Nat := bankQuadrant (p / 48)

/-- The tile whose tap a pin is bound to (R229). -/
def State.pinTile (s : State) (p : Nat) : Nat := 32 * pinQuadrant p + pbTile (s.pin p).binding

/-- The mode reaches the fabric through the pin's output and input lanes (R230). -/
def laneMode (m : Nat) : Bool := m == 1 || m == 2 || m == 3

/-- The number of tap lanes from lane b on that a pin uses in a mode (R230). -/
def lanesUsed (m oe : Nat) (laneEn : Bool) : Nat :=
  if m = 1 ∨ m = 2 then (if oe = 2 then 2 else 1)
  else if m = 3 then (if oe = 2 then 3 else 2)
  else if laneEn then 1 else 0

/-- The number of tap lanes that pin `p` uses now. -/
def State.pinLanes (s : State) (p : Nat) : Nat :=
  let x := s.pin p
  if pbBound x.binding then lanesUsed (pcMode x.cfg) (pbOe x.binding) x.laneEn else 0

/-- Pin `p` uses lane `l` of tap `j` of tile `t`. -/
def State.pinHasLane (s : State) (p t j l : Nat) : Bool :=
  let b := (s.pin p).binding
  s.pinTile p == t && pbTap b == j && decide (pbLane b ≤ l) && decide (l < pbLane b + s.pinLanes p)

/-- The pins of a quadrant (R18). -/
def quadrantPins (q : Nat) : List Nat := (List.range 576).filter (fun p => pinQuadrant p = q)

/-- A tap that a pin uses (R144, R230). -/
def State.tapPinned (s : State) (t j : Nat) : Bool :=
  (quadrantPins (t / 32)).any (fun p => (List.range 16).any (fun l => s.pinHasLane p t j l))

/-- A tap that a core may not use for data: bound to a seam or used by a pin (R144, R204, R230). -/
def State.tapTaken (s : State) (t j : Nat) : Bool := (s.tapSeam t j).isSome || s.tapPinned t j

/-- Taps 12–15 serve port F (R102, R144). -/
def State.tapIsF (s : State) (t j : Nat) : Bool := (s.tile t).fEn && decide (12 ≤ j)

/-- The odd pin of an LVDS pair: its even neighbour has std 5 (R228). -/
def State.oddOfPair (s : State) (p : Nat) : Bool := p % 2 == 1 && pcStd (s.pin (p - 1)).cfg == 5

/-- The listed ALT pins (R237). -/
def altPin (p : Nat) : Bool := decide (72 ≤ p) && decide (p ≤ 92)

/-- A PIN_CFG or PIN_IRQ field holds a reserved value (R227, R232, R238, R244). -/
def pinReserved (cfg : Word) (trig : Nat) : Bool :=
  decide (6 ≤ pcMode cfg) || decide (8 ≤ pcStd cfg) || decide (6 ≤ trig) ||
  ((pcStd cfg == 6 || pcStd cfg == 7) && decide (2 ≤ pcDrive cfg))

/-- The first condition of R231 that pin `p` breaks: `true` when it lies in the binding entry. -/
def State.pinFault (s : State) (p : Nat) : Option Bool :=
  let x := s.pin p
  let m := pcMode x.cfg
  let b := pbLane x.binding
  let t := s.pinTile p
  let j := pbTap x.binding
  let n := s.pinLanes p
  let mine := fun l => decide (b ≤ l) && decide (l < b + n)
  if s.oddOfPair p then
    (if pcStd x.cfg ≠ 5 || pbBound x.binding then some false else none)
  else if pinReserved x.cfg x.trig.toNat then some false
  else if (laneMode m || x.laneEn) && !pbBound x.binding then some true
  else if laneMode m && x.laneEn then some false
  else if 16 < b + n then some true
  else if (quadrantPins (pinQuadrant p)).any (fun q => q < p &&
      (List.range 16).any (fun l => mine l && s.pinHasLane q t j l)) then some true
  else if 0 < n ∧ ((s.tapSeam t j).isSome || s.tapIsF t j) then some true
  else if (m == 4) != (s.pinSeam p).isSome then some false
  else if m = 5 ∧ !altPin p then some false
  else none

/-- A seam breaks a condition of R206, given what other seams may hold (R206, R216). -/
def State.seamFault (s : State) (i : Nat) (v : Word) (others : Nat → List Word) : Bool :=
  let g := s.seam i
  let t := s.seamTile i
  let taps := (List.range (sgTaps v)).map (g.tap + ·)
  let pins := (List.range (sgPins v)).map (g.edgeBase + ·) ++
    (if sgQual v = 0 then [] else [sgQualPin v])
  let clash := fun (k : Nat) (w : Word) => taps.any (fun j => s.seamHasTap k w t j) ||
    pins.any (fun p => s.seamHasPin k w p)
  sgKind v != 0 &&
   (sgQual v == 3 || (sgKind v == 3 && fld v 10 6 != 0) ||
    decide (16 < g.tap + sgTaps v) ||
    (List.range 256).any (fun k => k != i && (others k).any (clash k)) ||
    taps.any (fun j => s.tapIsF t j) ||
    pins.any (fun p => decide (576 ≤ p) || pinQuadrant p != i / 64))

end Sys2Proof.Machine
end

