-- ==== Sys2Proof/Machine/Pins.lean ====
section
/-! DEFINITION. Pins: what drives each ball and what it reads as, the function switch, latches,
detectors, containment and pin seams (chapter 09, R215). -/

namespace Sys2Proof.Machine

/-! ### The ball (R232, R233, R238, R247, R249, R250) -/

/-- The instruction in the TAP gives the pads to the boundary register (R250). -/
def TapInstr.ownsPads : TapInstr → Bool
  | .extest => true
  | .highz => true
  | .clamp => true
  | _ => false

/-- What pin `p`'s own function puts out: the odd pin of an LVDS pair shows the complement (R228). -/
def State.funcDrive (s : State) (p : Nat) : Drive :=
  if s.oddOfPair p then (s.pin (p - 1)).drive.map (fun v => !v) else (s.pin p).drive

/-- The bank of pin `p` has no VCCIO: driver and pull are off and the input is not powered (R247). -/
def State.padOff (s : State) (p : Nat) : Bool := (s.pinBank (p / 48)).unpowered

/-- What pin `p`'s pad driver puts out: its function, or the boundary register (R250). -/
def State.padDrive (s : State) (p : Nat) : Drive :=
  if s.padOff p then none
  else match s.jtag.ir with
  | .highz => none
  | .extest => if s.jtag.boundary.getLsbD (3 * p + 2) then some (s.jtag.boundary.getLsbD (3 * p + 1)) else none
  | .clamp => if s.jtag.boundary.getLsbD (3 * p + 2) then some (s.jtag.boundary.getLsbD (3 * p + 1)) else none
  | _ => s.funcDrive p

/-- The level that the pull gives a ball that nothing drives, if any: weak pull-up by PULLSEL before
RELEASE_OUTPUTS, then PIN_CFG.pull, whose keeper holds the last level (R238, R247). -/
def State.pullLevel (s : State) (p : Nat) : Option Bool :=
  if !s.pins.released then (if s.pins.pullsel then some true else none)
  else
    let n := pcPull (s.pin p).cfg
    if n = 1 then some true else if n = 2 then some false
    else if n = 3 then some (s.pin p).kept else none

/-- The level at the ball: what the board and the driver make together. Contention between them and a
floating ball read as 0 or 1, not determined (R232, R233, log entry 16), and so does an input that has no
power (R247). -/
def State.ballLevel (s : State) (p : Nat) (board : Option Bool) : Bool × State :=
  if s.padOff p then s.drawBit
  else match board, s.padDrive p with
  | some b, none => (b, s)
  | none, some d => (d, s)
  | some b, some d => if b = d then (b, s) else s.drawBit
  | none, none =>
    match s.pullLevel p with
    | some v => (v, s)
    | none => s.drawBit

/-- The pin whose ball a pin reads: the even one of an LVDS pair (R228). -/
def State.pairPin (s : State) (p : Nat) : Nat := if s.oddOfPair p then p - 1 else p

/-- One sample of a pad, with what the board drives. Under boundary scan the core side keeps the last
level that it took in (R250). -/
def State.samplePad (s : State) (p : Nat) (board : Option Bool) : Bool × State :=
  let q := s.pairPin p
  let s1 := s.modPin q (fun x => { x with board := board })
  let (v, s2) := s1.ballLevel q board
  let s3 := s2.modPin q (fun x => { x with kept := v })
  if s3.jtag.ir.ownsPads then ((s3.pin q).seen, s3)
  else (v, s3.modPin q (fun x => { x with seen := v }))

/-- The driver puts out `d` from now on. The level that it had put out is the last one of the ball, unless
the board drove against it (R238). -/
def Pin.setDrive (d : Drive) (x : Pin) : Pin :=
  { x with
    drive := d
    kept := match x.drive, x.board with
      | some v, none => v
      | some v, some b => if v = b then v else x.kept
      | none, _ => x.kept }

/-! ### Sources (R233–R237, R247) -/

/-- The level and enable that an ALT pin drives between bytes (R237, R329): TX high; CS_N low while its SPI
is enabled with cs = 1, else high; SCK at cpol while its SPI is enabled, else low; MOSI and trace low; I2C
released; inputs off. The levels within a byte are left out (log entry 3). -/
def State.altDrive (s : State) (p : Nat) : Drive :=
  let spi := s.spi (if p < 80 then 0 else 1)
  if p = 72 ∨ p = 74 then some true
  else if p = 79 ∨ p = 83 then some (!(bitOf spi.ctrl 0 && bitOf spi.ctrl 3))
  else if p = 76 ∨ p = 80 then some (bitOf spi.ctrl 0 && bitOf spi.ctrl 1)
  else if p = 77 ∨ p = 81 ∨ (88 ≤ p ∧ p ≤ 92) then some false
  else none

/-- The hold latch keeps the pad: in cycles 1 and 2 of a function switch, and from the end of boundary scan to
them (R239, R250). -/
def Switch.frozen (x : Switch) : Bool := x.cycle == 2 || x.cycle == 3 || (x.cycle == 1 && x.scan)

/-- The pad follows its source: outputs are released, no switch freezes it and no region holds it. -/
def State.padFollows (s : State) (p : Nat) : Bool :=
  let x := s.pin p
  s.pins.released && !x.sw.frozen && !x.contained

/-- The drive of a GPIO pin (R236). -/
def Pin.gpioDrive (x : Pin) : Drive := if x.oeLatch then some x.outLatch else none

/-- The drive of a lane-driven pin after its source has offered something: the enable by oe_src, the
level last offered, or else the held one or rst_lvl (R229, R233, R239, R247). -/
def Pin.laneDrive (x : Pin) : Drive :=
  let en := if pbOe x.binding = 0 then true
    else if pbOe x.binding = 2 then (match x.srcOe with | some e => e | none => x.drive.isSome)
    else false
  if en then some (match x.srcLevel with
    | some v => v
    | none => match x.drive with | some d => d | none => pcRstLvl x.cfg)
  else none

/-- The pad of a pin that follows takes the value of its GPIO or lane source. -/
def State.refreshPin (s : State) (p : Nat) : State :=
  if !s.padFollows p then s
  else s.modPin p (fun x =>
    let m := pcMode x.cfg
    x.setDrive (
      if m = 0 then x.gpioDrive
      else if laneMode m then x.laneDrive
      else if m = 5 then s.altDrive p
      else x.drive))

/-- An ALT pad follows its peripheral's registers (R237, R329). -/
def State.refreshAlt (s : State) (p : Nat) : State := if pcMode (s.pin p).cfg = 5 then s.refreshPin p else s

/-- A pin that kept its rcfg state follows its source again: the second of the two changes, with the
detectors masked as in R239 (R248). -/
def Pin.returned (x : Pin) : Pin := if x.returning then { x with returning := false, mask := 5 } else x

/-- The seam that names a SEAMPORT pin shows a level on it (R235). -/
def State.seamDrive (s : State) (p : Nat) (v : Bool) : State :=
  if pcMode (s.pin p).cfg = 4 ∧ s.padFollows p then s.modPin p (fun x => x.returned.setDrive (some v)) else s

/-- What a SEAMPORT pin's seam gives the pad (R205, R235): an OUT seam's edge pin the word it last
loaded, a STROBE qualifier its level once a reset has completed, an input nothing. -/
def State.seamPinDrive (s : State) (p : Nat) : Drive :=
  match s.pinSeam p with
  | some i =>
    let g := s.seam i
    if !sgIn g.cfg && decide (g.edgeBase ≤ p) && decide (p < g.edgeBase + sgPins g.cfg) then
      (if p < g.edgeBase + g.driven then g.shown.map (fun w => w.getLsbD (p - g.edgeBase)) else none)
    else if sgQual g.cfg = 2 ∧ sgQualPin g.cfg = p ∧ g.strobeOn then some g.strobe
    else none
  | none => none

/-- Pin `p` is an edge pin of an OUT seam, which drives it only from a load on (R235). -/
def State.seamOutPin (s : State) (p : Nat) : Bool :=
  match s.pinSeam p with
  | some i =>
    let g := s.seam i
    !sgIn g.cfg && decide (g.edgeBase ≤ p) && decide (p < g.edgeBase + sgPins g.cfg)
  | none => false

/-- RELEASE_OUTPUTS on one pin (R247); a pin whose region or tile is away follows rcfg (R248). -/
def State.releasePin (s : State) (p : Nat) : State :=
  let x := s.pin p
  let m := pcMode x.cfg
  let x1 : Pin := { x with mask := 2, returning := false }
  let x2 : Pin := if m = 0 then { x1 with outLatch := pcRstLvl x.cfg, oeLatch := pbOe x.binding == 0 } else x1
  s.setPin p (x2.setDrive (
    if x.contained then (if 2 ≤ pcRcfg x.cfg then some (pcRcfg x.cfg == 3) else none)
    else if m = 0 then x2.gpioDrive
    else if laneMode m then (if pbOe x.binding ≠ 0 ∧ x.srcOe.isNone then none else x2.laneDrive)
    else if m = 5 then s.altDrive p
    else if m = 4 then s.seamPinDrive p
    else x.drive))

/-- A detector starts: no level from before it is in it (R243, R247, log entry 31). -/
def State.startDetector (s : State) (p : Nat) : State :=
  let q := s.samplePad p (s.pin (s.pairPin p)).board
  q.2.modPin p (fun x => { x with level := q.1, sync1 := q.1, sync2 := q.1, same := 0 })

/-- RELEASE_OUTPUTS (R247): every pin at one HK edge; the detectors start. -/
def State.releaseOutputs (s : State) : State :=
  let s1 := { s with pins := { s.pins with released := true } }
  (List.range 576).foldl State.startDetector ((List.range 576).foldl State.releasePin s1)

/-- A pin seam after a group reset: empty, epochs equal, the depth by the clock's rate (R211, R212, R234). -/
def Pin.resetSeam (s3 : Bool) (x : Pin) : Pin :=
  { x with psOut := [], psIn := none, psOffered := false, psStarted := false, psEpochF := false,
           psEpochE := false, psFault := false, psS3 := s3 }

/-! ### Edge clocks (R197, R199–R201) -/

/-- An edge clock runs: enabled and the PLL locked; EC7 runs from XIN while it is not (R197, R199). -/
def State.ecRuns (s : State) (n : Nat) : Bool :=
  (s.ec n).en && (if n = 7 then s.clk.rootLock || !s.clk.xinStopped else s.clk.rootLock)

/-- 2^24 times the VCO frequency in units of 25 MHz (R196). -/
def Pll.vco (p : Pll) : Nat := p.n * 2 ^ 24 + (if p.fracEn then p.frac else 0)
/-- The output divider (R196, R221). -/
def Pll.div (p : Pll) : Nat := 2 ^ (p.post + 1)
/-- ROOT / D is above `mhz` (R83, R196, R201): 25·vco / (2^24·post·D) > mhz. -/
def Pll.above (p : Pll) (d mhz : Nat) : Bool := decide (mhz * 2 ^ 24 * p.div * d < 25 * p.vco)
/-- The VCO and ROOT ranges of R196. -/
def Pll.inRange (p : Pll) : Bool :=
  decide (1600 * 2 ^ 24 ≤ 25 * p.vco) && decide (25 * p.vco ≤ 3200 * 2 ^ 24) &&
  decide (200 * 2 ^ 24 * p.div ≤ 25 * p.vco) && decide (25 * p.vco ≤ 1300 * 2 ^ 24 * p.div) &&
  decide (p.post ≤ 2)

/-- An edge clock runs above 400 MHz, so that its synchronisers have depth 3 (R83); EC7 is not while it
runs from XIN (R197). -/
def State.ecFast (s : State) (n : Nat) : Bool := s.clk.rootLock && s.clk.now.above ((s.ec n).div.toNat + 1) 400

/-! ### Detectors (R243–R246) -/

/-- A level trigger whose level the accepted level matches (R244). -/
def Pin.levelHit (x : Pin) : Bool :=
  (x.trig.toNat == 4 && x.level) || (x.trig.toNat == 5 && !x.level)

/-- pend becomes 1: the bank event, and one token on the event lane (R246). A second detection of a
pin whose pend is set still reaches the lane. -/
def State.pinDetected (s : State) (p : Nat) : State :=
  let x := s.pin p
  let b := s.pinBank (p / 48)
  let s1 := s.modPin p (fun x => { x with pend := true })
  let s2 := if !x.pend && b.evEn && x.tileEv then s1.setEvents b.evTile.toNat 0x2000#16 else s1
  if x.laneEn && pbBound x.binding then
    let t := s.pinTile p
    let j := pbTap x.binding
    let l := pbLane x.binding
    if s2.inwardFree t j l then s2.offerInward t j l true
    else s2.modPin p (fun x => { x with evOvf := true })
  else s2

/-- The detector records: after RELEASE_OUTPUTS, in a bank with VCCIO, while it is not masked, and not on the
odd pin of a pair (R228, R239, R247). -/
def State.records (s : State) (p : Nat) : Bool :=
  s.pins.released && !s.padOff p && (s.pin p).mask == 0 && !s.oddOfPair p

/-- While the accepted level matches a level trigger, pend is set, which is a detection when it was 0
(R244, R246). -/
def State.levelPends (s : State) (p : Nat) : State :=
  if s.records p && (s.pin p).levelHit && !(s.pin p).pend then s.pinDetected p else s

/-- The detector accepts a level (R243, R244). -/
def State.acceptLevel (s : State) (p : Nat) (v : Bool) : State :=
  let x := s.pin p
  let s1 := s.modPin p (fun x => { x with level := v, same := 0 })
  let edge := (x.trig.toNat == 1 && !x.level && v) || (x.trig.toNat == 2 && x.level && !v) ||
    (x.trig.toNat == 3 && x.level != v)
  let lvl := (s1.pin p).levelHit && !x.levelHit
  if s.records p && (edge || lvl) then s1.pinDetected p else s1.levelPends p

/-- A write of 1 to pend: cleared, unless the level of a level trigger still matches (R244, R255). -/
def Pin.clearPend (x : Pin) : Pin := { x with pend := x.pend && x.levelHit }

/-! ### The function switch (R239, R240) -/

/-- A write of PIN_CFG would leave some pin breaking a condition of R231 that it does not break now (R240). -/
def State.pinBreaks (s s1 : State) (p : Nat) : Bool :=
  (s1.pinFault p).isSome ||
  (quadrantPins (pinQuadrant p)).any (fun q => (s1.pinFault q).isSome && (s.pinFault q).isNone)

/-- The rw fields of PIN_CFG. -/
def pcMask (v : Word) : Word := v &&& 0x7FFFFFFF#32

/-- Bits of PIN_CFG other than rst_lvl and rcfg. -/
def pcOther (v : Word) : Word := v &&& 0x47FFFFFF#32

def State.pinBankRej (s : State) (p : Nat) : State :=
  s.modPinBank (p / 48) (fun b => { b with cfgRej := true })

/-- The configuration that a pin will have once its switch, and the write held behind it, are done (R240). -/
def Pin.settled (x : Pin) : Pin :=
  if x.sw.cycle = 0 then x else { x with cfg := x.sw.next.getD (if x.sw.cycle ≤ 2 then x.sw.cfg else x.cfg) }

/-- The pins as they will be after the switches in progress, by which a new write is checked (R240). -/
def State.settledPins (s : State) : State :=
  { s with pins := { s.pins with pins := s.pins.pins.map (fun q => (q.1, q.2.settled)) } }

/-- A configuration `w` for pin `p` would leave it breaking a condition of R231 (R240). -/
def State.cfgBreaks (s : State) (p : Nat) (w : Word) : Bool :=
  s.settledPins.pinBreaks (s.settledPins.modPin p (fun x => { x with cfg := w })) p

/-- A PIN_CFG write (R239, R240). -/
def State.writePinCfg (s : State) (p : Nat) (v : Word) : State :=
  let x := s.pin p
  let w := pcMask v
  if x.sw.cycle = 0 ∧ w ≠ x.cfg ∧ pcOther w = pcOther x.cfg then s.modPin p (fun x => { x with cfg := w })
  else if s.cfgBreaks p w then s.pinBankRej p
  else if x.sw.cycle ≠ 0 then s.modPin p (fun x => { x with sw := { x.sw with next := some w } })
  else s.modPin p (fun x => { x with sw := { cycle := 1, cfg := w, next := none, scan := false } })

/-- Cycle 1 of a function switch: level and enable are frozen, and the detector is masked for this and the
four HK cycles that follow (R239). -/
def Pin.freeze (x : Pin) : Pin := { x with sw := { x.sw with cycle := 2 }, mask := 5 }

/-- Cycle 2 (R239): the new function is selected, unless it would now break a condition of R231 (R240). A
switch that leaves the pin in REGISTERED or DDR mode resets its pin seam (R234). -/
def State.selectFunc (s : State) (p : Nat) : State :=
  let x := s.pin p
  if !x.sw.scan && s.pinBreaks (s.modPin p (fun x => { x with cfg := x.sw.cfg })) p then
    (s.modPin p (fun x => { x with sw := { x.sw with cycle := 3, cfg := x.cfg, scan := true } })).pinBankRej p
  else
    let m := pcMode x.sw.cfg
    s.modPin p (fun x =>
      let y : Pin := { x with
        cfg := x.sw.cfg, sw := { x.sw with cycle := 3 }
        srcLevel := if x.sw.scan then x.srcLevel else none
        srcOe := if x.sw.scan then x.srcOe else none }
      if m = 2 ∨ m = 3 then y.resetSeam (s.ecFast (pcEc y.cfg)) else y)

/-- Cycle 3 (R239): the pad follows its new source, which keeps the held value until it first offers one. -/
def State.followFunc (s : State) (p : Nat) : State :=
  let s1 := s.modPin p (fun x => { x with sw := { x.sw with cycle := 4 } })
  let x := s1.pin p
  let m := pcMode x.cfg
  if m = 0 ∨ m = 5 ∨ (laneMode m ∧ (x.srcLevel.isSome ∨ x.srcOe.isSome ∨ pbOe x.binding = 1)) then s1.refreshPin p
  else if m = 4 ∧ s1.padFollows p ∧ (x.sw.scan ∨ !s1.seamOutPin p) then
    s1.modPin p (fun y => y.setDrive (s1.seamPinDrive p))
  else s1

/-- The end of cycle 3: sw falls, or the write held behind the switch starts its own (R239, R240). -/
def Pin.endSwitch (x : Pin) : Pin :=
  match x.sw.next with
  | some w => ({ x with sw := { cycle := 1, cfg := w, next := none, scan := false } } : Pin).freeze
  | none => { x with sw := { cycle := 0, cfg := 0, next := none, scan := false } }

/-- A PIN_IRQ write: rw fields, then w1c bits, or nothing (R240, R252); a level that matches then sets pend
(R244). -/
def State.writePinIrq (s : State) (p : Nat) (v : Word) : State :=
  let put := fun (x : Pin) => { x with
    trig := BitVec.ofNat 3 (fld v 0 3), dg := BitVec.ofNat 8 (fld v 3 8), same := 0
    laneEn := bitOf v 12, tileEv := bitOf v 13 }
  if s.settledPins.pinBreaks (s.settledPins.modPin p put) p then s.pinBankRej p
  else
    let s1 := (s.modPin p put).modPin p (fun x => { (if bitOf v 11 then x.clearPend else x) with
      evOvf := x.evOvf && !bitOf v 14, psUnder := x.psUnder && !bitOf v 16 })
    s1.levelPends p

/-- The output and enable latches of a pin written: the pad follows them in GPIO mode alone (R236, R242). -/
def State.setLatches (s : State) (p : Nat) (out oe : Bool) : State :=
  let s1 := s.modPin p (fun x => { x with outLatch := out, oeLatch := oe })
  if pcMode (s.pin p).cfg = 0 then s1.refreshPin p else s1

/-- PINW writes both latches, and no register write changes them in the same HK cycle (R242). -/
def State.pinWrite (s : State) (p : Nat) (out oe : Bool) : State :=
  (s.setLatches p out oe).modPin p (fun x => { x with pinwAt := some s.time })

/-- A write to PIN_OUTk or PIN_OEk (R241). A latch that a PINW has written in this HK cycle keeps the value
of the PINW, which comes second (R242). -/
def State.writeLatches (s : State) (oe : Bool) (k : Nat) (v : Word) : State :=
  (List.range 32).foldl (fun s i =>
    let x := s.pin (32 * k + i)
    if 32 * k + i < 576 ∧ x.pinwAt ≠ some s.time then
      if oe then s.setLatches (32 * k + i) x.outLatch (v.getLsbD i)
      else s.setLatches (32 * k + i) (v.getLsbD i) x.oeLatch
    else s) s

/-! ### Containment (R248) -/

/-- A region or a tile `t` owns pin `p` (R248). -/
def State.tileOwnsPin (s : State) (t p : Nat) : Bool :=
  (pbBound (s.pin p).binding && s.pinTile p == t) ||
  (pcMode (s.pin p).cfg == 4 && match s.pinSeam p with
    | some i => s.seamTile i == t
    | none => false)

/-- The region of tile `t` is LOADING, HELD or ABORTED, or the tile is fenced or gated (R248). -/
def State.tileAway (s : State) (t : Nat) : Bool :=
  (s.tile t).fenced || (s.tile t).power.off || (match s.regionState t with
    | .loading => true
    | .held => true
    | .aborted => true
    | _ => false)

/-- A tile that owns pin `p` is away (R248). -/
def State.pinAway (s : State) (p : Nat) : Bool :=
  (pbBound (s.pin p).binding && s.tileAway (s.pinTile p)) ||
  (pcMode (s.pin p).cfg == 4 && match s.pinSeam p with
    | some i => s.tileAway (s.seamTile i)
    | none => false)

/-- The pin takes its rcfg state, at most once; its detectors are masked (R248). -/
def State.containPin (s : State) (p : Nat) : State :=
  let x := s.pin p
  if x.contained then s
  else s.setPin p (({ x with contained := true, returning := false, mask := 5, srcLevel := none, srcOe := none }
    : Pin).setDrive (
      if !s.pins.released then x.drive
      else if pcRcfg x.cfg = 0 then x.drive else if pcRcfg x.cfg = 1 then none
      else some (pcRcfg x.cfg == 3)))

/-- The pin keeps the rcfg state until its source first offers a value (R248); the latches and a peripheral
offer one at all times. -/
def State.uncontainPin (s : State) (p : Nat) : State :=
  if !(s.pin p).contained then s
  else
    let s1 := s.modPin p (fun x => { x with contained := false, returning := s.pins.released })
    let m := pcMode (s1.pin p).cfg
    if m = 0 ∨ m = 5 then (s1.modPin p Pin.returned).refreshPin p else s1

/-- What owns pin `p` may have changed: the pin follows rcfg exactly while an owner is away (R248). -/
def State.settleOwner (s : State) (p : Nat) : State :=
  if s.pinAway p then s.containPin p else s.uncontainPin p

/-! ### The three HK cycles of a switch (R239) -/

/-- The next HK edge of a function switch; who owns a pin can change with its mode (R248). -/
def State.switchEdge (s : State) (p : Nat) : State :=
  let n := (s.pin p).sw.cycle
  if n = 0 then s
  else if n = 1 then s.modPin p Pin.freeze
  else if n = 2 then s.selectFunc p
  else if n = 3 then (s.settleOwner p).followFunc p
  else s.modPin p Pin.endSwitch

/-- FUNCTION_SWITCH: the switch runs to its end, two HK cycles before the mask does (R239). -/
def State.finishSwitch (s : State) (p : Nat) : State :=
  let n := (s.pin p).sw.cycle
  if n = 0 then s
  else
    let s1 := (List.range (5 - n)).foldl (fun s _ => s.switchEdge p) s
    if (s1.pin p).sw.cycle = 0 then s1.modPin p (fun x => { x with mask := 2 }) else s1

/-- The pins that tile `t` owns. -/
def State.pinsOf (s : State) (t : Nat) : List Nat := (quadrantPins (t / 32)).filter (s.tileOwnsPin t)

def State.containTilePins (t : Nat) (s : State) : State := (s.pinsOf t).foldl State.containPin s
def State.uncontainTilePins (t : Nat) (s : State) : State := (s.pinsOf t).foldl State.uncontainPin s

/-- A reload or fence of the bound tile resets the fabric side of the pin seams (R234, R212). -/
def State.resetPinSeamsF (t : Nat) (s : State) : State :=
  ((quadrantPins (t / 32)).filter (fun p => pbBound (s.pin p).binding && s.pinTile p == t &&
      (pcMode (s.pin p).cfg == 2 || pcMode (s.pin p).cfg == 3))).foldl
    (fun s p => s.modPin p (fun x => { x with psEpochF := !x.psEpochF, psFault := true })) s

/-! ### Fabric side of a pin (R233, R234, R215) -/

/-- The pin's source offers a level, an enable or both. -/
def State.offerPin (s : State) (p : Nat) (lvl oe : Option Bool) : State :=
  let s1 := s.modPin p (fun x => { x with
    srcLevel := if lvl.isSome then lvl else x.srcLevel
    srcOe := if oe.isSome then oe else x.srcOe })
  if s.padFollows p then (s1.modPin p Pin.returned).refreshPin p else s1

/-- An outward lane of a pin's tap is taken: nothing when it carries no token. -/
def State.takeLane (s : State) (t j l : Nat) : State :=
  if (s.outward t j l).isSome then s.takeOutward t j [l] else s

/-- Output and enable tokens reach pin `p` (R233, R234). A DIRECT pin takes each token as it comes. The
pin seam of a REGISTERED or DDR pin takes a complete word while its queue of two has room and the seam
is not in FAULT_HOLD. In any other mode the I/O cell acknowledges the tokens of the lanes that no other
pin uses, and they do not reach the pad (worked case after R240). -/
def State.stepPinOut (s : State) (p : Nat) : State :=
  let x := s.pin p
  if !pbBound x.binding then s
  else
    let t := s.pinTile p
    let j := pbTap x.binding
    let b := pbLane x.binding
    let m := pcMode x.cfg
    let lane := pbOe x.binding == 2
    if !s.moves t then s
    else if m = 1 then
      let l := s.outward t j b
      let e := if lane then s.outward t j (b + 1) else none
      let s1 := if l.isSome then s.takeOutward t j [b] else s
      let s2 := if e.isSome then s1.takeOutward t j [b + 1] else s1
      if l.isSome ∨ e.isSome then s2.offerPin p l e else s2
    else if m = 2 ∨ m = 3 then
      if x.psFault ∨ 2 ≤ x.psOut.length then s
      else
        let n := lanesUsed m (pbOe x.binding) false
        let lanes := (List.range n).map (b + ·)
        if lanes.all (fun l => (s.outward t j l).isSome) then
          let rise := s.outward t j b == some true
          let fall := if m = 3 then s.outward t j (b + 1) == some true else rise
          let en := if pbOe x.binding = 0 then true
            else if lane then s.outward t j (b + n - 1) == some true else false
          (s.takeOutward t j lanes).modPin p (fun x => { x with
            psOut := x.psOut ++ [{ rise := rise, fall := fall, en := en, age := 0 }] })
        else s
    else
      let free := fun l => decide (l < 16) &&
        !(quadrantPins (pinQuadrant p)).any (fun q => q != p && s.pinHasLane q t j l)
      ((List.range 3).map (b + ·)).foldl (fun s l => if free l then s.takeLane t j l else s) s

/-- A captured sample is offered on the pin's inward lanes when they are free (R209, R215). -/
def State.offerSample (s : State) (p : Nat) : State :=
  let x := s.pin p
  let t := s.pinTile p
  let j := pbTap x.binding
  let b := pbLane x.binding
  match x.psIn with
  | none => s
  | some (r, f) =>
    if x.psFault || !s.moves t || !s.inwardFree t j b then s
    else if pcMode x.cfg = 3 then
      if s.inwardFree t j (b + 1) then
        ((s.offerInward t j b r).offerInward t j (b + 1) f).modPin p
          (fun x => { x with psIn := none, psOffered := true })
      else s
    else (s.offerInward t j b r).modPin p (fun x => { x with psIn := none, psOffered := true })

/-- A DIRECT pin samples its pad on the fabric's request and offers the value (R233). In REGISTERED and
DDR mode, the sample that the pin seam captured last is offered (R215). -/
def State.stepPinIn (s : State) (p : Nat) (ball : Option Bool) : State :=
  let x := s.pin p
  let t := s.pinTile p
  let j := pbTap x.binding
  let b := pbLane x.binding
  if !pbBound x.binding then s
  else if pcMode x.cfg = 1 then
    if s.pins.released && s.moves t && s.inwardFree t j b then
      let (v, s1) := s.samplePad p ball
      s1.offerInward t j b v
    else s
  else if pcMode x.cfg = 2 ∨ pcMode x.cfg = 3 then s.offerSample p
  else s

/-- One edge of a pin seam's output queue (R208, R215): an entry that s + 1 edges have seen is taken; an
empty queue after the first word sets ps_under (R252). -/
def Pin.popEntry (x : Pin) : Option PsEntry × Pin :=
  match x.psOut.map (fun e => { e with age := e.age + 1 }) with
  | [] => (none, { x with psUnder := x.psUnder || x.psStarted })
  | e :: r =>
    if (if x.psS3 then 4 else 3) ≤ e.age then (some e, { x with psOut := r, psStarted := true })
    else (none, { x with psOut := e :: r })

/-- The pad takes the level and the enable of an entry. -/
def State.showEntry (s : State) (p : Nat) (v : Option (Bool × Bool)) : State :=
  match v with
  | some (lvl, en) => s.offerPin p (some lvl) (some en)
  | none => s

/-- One edge cycle of a pin seam's clock (R215, R234). At the rising edge the pad is captured and the entry
taken, whose rising-edge bit the pad then shows; in DDR the pad is captured again at the falling edge and
then shows the falling-edge bit. A newer sample replaces one that has not been offered. -/
def State.stepPinSeam (s : State) (p : Nat) (rise fall : Option Bool) : State :=
  let x := s.pin p
  let m := pcMode x.cfg
  if !(m == 2 || m == 3) || x.psFault || !s.ecRuns (pcEc x.cfg) then s
  else
    let (r, s1) := if s.pins.released then s.samplePad p rise else (false, s)
    let (e, y) := (s1.pin p).popEntry
    let s2 := (s1.setPin p y).showEntry p (e.map (fun e => (e.rise, e.en)))
    let (f, s3) := if m = 3 ∧ s.pins.released then s2.samplePad p fall else (r, s2)
    let s4 := if m = 3 then s3.showEntry p (e.map (fun e => (e.fall, e.en))) else s3
    if s.pins.released then (s4.modPin p (fun x => { x with psIn := some (r, f) })).offerSample p else s4

/-! ### The meanings -/

def execPinSeamTransfer (p : PinId) (rise fall : Option Bool) (s : State) : Result :=
  .next (s.stepPinSeam p rise fall)
def execPinCfgWrite (p : PinId) (v : Word) (s : State) : Result := .next (s.writePinCfg p v)
def execFunctionSwitch (p : PinId) (s : State) : Result := .next (s.finishSwitch p)
def execPinIrqWrite (p : PinId) (v : Word) (s : State) : Result := .next (s.writePinIrq p v)
def execPinLatchWrite (oe : Bool) (k : Fin 18) (v : Word) (s : State) : Result :=
  .next (s.writeLatches oe k v)
def execPinDetection (p : PinId) (level : Bool) (s : State) : Result := .next (s.acceptLevel p level)

/-- The level on PULLSEL changes: the pulls follow it until RELEASE_OUTPUTS (R247). -/
def execPullselChange (level : Bool) (s : State) : Result :=
  .next { s with pins := { s.pins with pullsel := level } }

end Sys2Proof.Machine
end

