-- ==== Sys2Proof/Machine/Seams.lean ====
section
/-! DEFINITION. Seams (chapter 08): the fabric side takes and offers words at the taps, the clocked
side moves words at the edges of its edge clock, and the resets of R212. SEAM_OUT_LOAD and
SEAM_IN_CAPTURE are one edge of the seam's clock (log entry 19). -/

namespace Sys2Proof.Machine

/-- Both sides transfer: state RUN, and the epochs have not differed (R212). -/
def Seam.running (g : Seam) : Bool := g.state == .run && !g.holdPend && g.epochF == g.epochE

/-- The lanes of seam `i`, each as tap and lane (R203). -/
def State.seamLanes (s : State) (i : Nat) : List (Nat × Nat) :=
  (List.range (sgLanes (s.seam i).cfg)).map (fun b => ((s.seam i).tap + b / 16, b % 16))

/-- PERT_SEAM holds the crossing of a seam at its upper bounds (R208, R384). -/
def State.seamForced (s : State) (i : Nat) : Bool :=
  s.pert.en.getLsbD 2 && (bitOf s.pert.seam 8 || fld s.pert.seam 0 8 == i)

/-- The number of edges after which a crossing event shows on the clocked side, s + 1 (R208). -/
def Seam.edges (g : Seam) : Nat := if g.s3 then 4 else 3

/-- The places of a crossing: one holding register under LOCKSTEP, two words for FLAG and 16 entries
for QUEUE (R207, R209). -/
def sgPlaces (v : Word) : Nat := if !sgBounded v then 1 else if sgKind v = 1 then 2 else 16

/-- Overrun, counted (R217, R218). -/
def Seam.over (g : Seam) : Seam := { g with overrun := true, flows := sat 63 (g.flows + 1) }
def Seam.under (g : Seam) : Seam := { g with underrun := true, flows := sat 63 (g.flows + 1) }
def Seam.missed (g : Seam) : Seam := { g with miss := true, misses := sat 63 (g.misses + 1) }
def Seam.moved (g : Seam) : Seam := { g with xfers := (g.xfers + 1) % 2 ^ 20 }

/-! ### Fabric side -/

/-- The complete word on an OUT seam's lanes (R203). -/
def State.seamWord (s : State) (i : Nat) : Option DWord :=
  let t := s.seamTile i
  let ls := s.seamLanes i
  if ls.all (fun (j, l) => (s.outward t j l).isSome) then
    some (BitVec.ofNat 64 ((ls.zip (List.range ls.length)).foldl (fun v (jl, b) =>
      v + (if s.outward t jl.1 jl.2 = some true then 2 ^ b else 0)) 0))
  else none

/-- The lanes of an OUT seam acknowledged, tap by tap. -/
def State.ackSeam (s : State) (i : Nat) : State :=
  let t := s.seamTile i
  (List.range (sgTaps (s.seam i).cfg)).foldl (fun s d =>
    let j := (s.seam i).tap + d
    s.takeOutward t j (((s.seamLanes i).filter (fun p => p.1 = j)).map (·.2))) s

/-- SEAM_WORD_ACCEPT: an OUT seam takes a complete word into its crossing while it has room (R207 to
R209). Under LOCKSTEP the fabric's acknowledge follows at the load (R207). On an EVENT seam, each token
on lane 0 is one event, acknowledged at once (R214). -/
def State.seamAccept (s : State) (i : Nat) : State :=
  let g := s.seam i
  if !g.running || sgIn g.cfg || sgKind g.cfg == 0 || !s.moves (s.seamTile i) then s
  else match s.seamWord i with
    | none => s
    | some w =>
      if sgKind g.cfg = 3 then
        (s.ackSeam i).modSeam i (fun g =>
          if g.srcCount = 63 then g.over else { g with srcCount := g.srcCount + 1, srcFresh := g.srcFresh + 1 })
      else if sgPlaces g.cfg ≤ g.fifo.length + g.freeing.length ∨ g.inFlight.isSome then s
      else
        let s1 := s.modSeam i (fun g => { g with fifo := g.fifo ++ [{ word := w, age := 0 }] })
        if sgBounded g.cfg then s1.ackSeam i else s1

/-- All lanes of an IN seam can take a new word. -/
def State.seamFree (s : State) (i : Nat) : Bool :=
  s.moves (s.seamTile i) && (s.seamLanes i).all (fun (j, l) => s.inwardFree (s.seamTile i) j l)

/-- A word offered on an IN seam's lanes. -/
def State.offerSeam (s : State) (i : Nat) (w : DWord) : State :=
  let t := s.seamTile i
  let ls := s.seamLanes i
  (ls.zip (List.range ls.length)).foldl (fun s (jl, b) => s.offerInward t jl.1 jl.2 (w.getLsbD b)) s

/-- An IN seam offers what it holds when its taps are free: the oldest word, or the count of an EVENT
seam as one word or pulse by pulse (R207, R209, R214). -/
def State.seamOffer (s : State) (i : Nat) : State :=
  let g := s.seam i
  if !g.running || !sgIn g.cfg || g.offered || !s.seamFree i then s
  else if sgKind g.cfg = 3 then
    if g.dstCount = 0 then s
    else
      let n := if sgPulses g.cfg then 1 else g.dstCount
      (s.offerSeam i (BitVec.ofNat 64 n)).modSeam i (fun g => { g with offered := true, offeredCount := n })
  else match g.fifo with
    | [] => s
    | e :: _ => (s.offerSeam i e.word).modSeam i (fun g => { g with offered := true })

/-- The fabric has acknowledged what an IN seam offered: the transfer counts, its place starts to become
free, and the count of an EVENT seam is taken (R207, R214, R218). -/
def Seam.acked (g : Seam) : Seam :=
  if sgKind g.cfg = 3 then { g with offered := false, dstCount := g.dstCount - g.offeredCount, offeredCount := 0 }
  else { g.moved with offered := false, fifo := g.fifo.drop 1, freeing := g.freeing ++ [0] }

/-- The acknowledge of an IN seam's word, and the next word. A seam that has left RUN, or whose tile is held,
keeps what it offered (R210, R212). -/
def State.seamAcked (s : State) (i : Nat) : State :=
  let g := s.seam i
  let t := s.seamTile i
  let s1 := if g.running && s.moves t && sgIn g.cfg && g.offered &&
      (s.seamLanes i).all (fun (j, l) => (s.node (inNode t j l)).out = .spacer)
    then s.modSeam i Seam.acked else s
  s1.seamOffer i

/-! ### Clocked side -/

/-- The pins of an OUT seam show a word (R205, R235). -/
def State.seamShow (s : State) (i : Nat) (w : DWord) : State :=
  let g := s.seam i
  (List.range (sgPins g.cfg)).foldl (fun s b => s.seamDrive (g.edgeBase + b) (w.getLsbD b))
    (s.modSeam i (fun g => { g with shown := some w, driven := max g.driven (sgPins g.cfg) }))

/-- The qualifier pin of a STROBE seam follows `strobe` (R205). -/
def State.seamStrobe (s : State) (i : Nat) (v : Bool) : State :=
  let s1 := s.modSeam i (fun g => { g with strobe := v })
  let g := s1.seam i
  if sgQual g.cfg = 2 ∧ g.strobeOn then s1.seamDrive (sgQualPin g.cfg) v else s1

/-- The destination counter of an EVENT seam receives a count: a transfer (R214, R218). -/
def Seam.receive (n : Nat) (g : Seam) : Seam :=
  let g1 := Seam.moved { g with dstCount := sat 63 (g.dstCount + n) }
  if 63 < g.dstCount + n then g1.over else g1

/-- The seam's clocked side sees an edge at all (R210). -/
def State.seamTicks (s : State) (i : Nat) : Bool :=
  (s.seam i).running && s.ecRuns (sgEc (s.seam i).cfg) && sgKind (s.seam i).cfg != 0

/-- One more edge has passed over what waits in the crossing. -/
def Seam.aged (g : Seam) : Seam :=
  { g with fifo := g.fifo.map (fun e => { e with age := e.age + 1 })
           freeing := g.freeing.map (· + 1) }

/-- The edge allows a transfer by its qualifier (R205, R207). -/
def Seam.allows (g : Seam) (qual : Bool) : Bool := sgQual g.cfg != 1 || qual

/-- The level of an ENABLE qualifier as the core side takes it in: under boundary scan the last one (R250). -/
def State.qualLevel (s : State) (i : Nat) (qual : Bool) : Bool × State :=
  let p := sgQualPin (s.seam i).cfg
  if sgQual (s.seam i).cfg ≠ 1 then (qual, s)
  else if s.jtag.ir.ownsPads then ((s.pin p).seen, s)
  else (qual, s.modPin p (fun x => { x with seen := qual }))

/-- What a LOCKSTEP OUT slot can take: the word in the holding register, or an EVENT seam's source count.
With `late`, what came since the last edge waits for the next slot (R207, R214). -/
def Seam.slotWord (late : Bool) (g : Seam) : Option DWord :=
  if sgKind g.cfg = 3 then
    let n := if late then g.srcCount - g.srcFresh else g.srcCount
    if n = 0 then none else some (BitVec.ofNat 64 n)
  else match g.fifo with
    | e :: _ => if late ∧ e.age = 0 then none else some e.word
    | [] => none

/-- A LOCKSTEP OUT slot takes a word, to be loaded s edges later (R207). -/
def Seam.takeSlot (w : DWord) (g : Seam) : Seam :=
  { g with inFlight := some (w, g.edges - 1)
           srcCount := if sgKind g.cfg = 3 then g.srcCount - w.toNat else g.srcCount }

/-- The word of a LOCKSTEP OUT slot is loaded: the pins show it and the fabric has its acknowledge, or the
destination counter receives it (R207, R214). -/
def State.lockLoad (s : State) (i : Nat) (w : DWord) : State :=
  let s1 := s.modSeam i (fun g => { g with inFlight := none })
  if sgKind (s.seam i).cfg = 3 then s1.modSeam i (Seam.receive w.toNat)
  else (((s1.modSeam i (fun g => { g.moved with fifo := [] })).seamShow i w).ackSeam i).seamStrobe i true

/-- One edge of a LOCKSTEP OUT seam: what was taken s edges ago is loaded, and at a slot the next word is
taken or a miss counted (R207). -/
def State.outLockstep (s : State) (i : Nat) (qual late : Bool) : State :=
  let g := s.seam i
  let s0 := s.modSeam i (fun g => { g.aged with cad := if g.cad = 0 then sgCad g.cfg else g.cad - 1 })
  let s1 := match g.inFlight with
    | some (w, n) =>
      if n ≤ 1 then s0.lockLoad i w
      else (s0.modSeam i (fun g => { g with inFlight := some (w, n - 1) })).seamStrobe i false
    | none => s0.seamStrobe i false
  if g.cad ≠ 0 ∨ !g.allows qual then s1
  else match g.slotWord late, g.inFlight with
    | some w, none => s1.modSeam i (Seam.takeSlot w)
    | _, _ => s1.modSeam i Seam.missed

/-- One edge of a BOUNDED OUT seam: an entry that s + 1 edges have seen, one more when it was late or is
forced, moves on where cadence and qualifier allow it; an empty crossing is an underrun of a QUEUE (R207–R209). -/
def State.outBounded (s : State) (i : Nat) (qual late : Bool) : State :=
  let g := (s.seam i).aged
  let v := g.cfg
  let need := g.edges + b2n (late || s.seamForced i)
  let s0 := s.setSeam i g
  if g.cad ≠ 0 then (s0.modSeam i (fun g => { g with cad := g.cad - 1 })).seamStrobe i false
  else if !g.allows qual then s0.seamStrobe i false
  else match g.fifo with
    | e :: r =>
      if need ≤ e.age then
        let s1 := s0.modSeam i (fun g => { g with fifo := r, freeing := g.freeing ++ [0], cad := sgCad v })
        if sgKind v = 3 then s1.modSeam i (Seam.receive e.word.toNat)
        else ((s1.modSeam i Seam.moved).seamShow i e.word).seamStrobe i true
      else s0.seamStrobe i false
    | [] => (s0.modSeam i (fun g => if sgKind v = 2 then g.under else g)).seamStrobe i false

/-- The delivery of an EVENT OUT seam in one edge cycle: its count, or one pulse; 0 on the pins that it
drives when there is none (R205, R214, R235). -/
def State.eventShow (s : State) (i : Nat) (qual : Bool) : State :=
  let g := s.seam i
  if g.dstCount = 0 ∨ !g.allows qual then
    (if g.shown.isSome then s.seamShow i 0 else s).seamStrobe i false
  else
    let n := if sgPulses g.cfg then 1 else g.dstCount
    ((s.modSeam i (fun g => { g with dstCount := g.dstCount - n })).seamShow i (BitVec.ofNat 64 n)).seamStrobe i true

/-- SEAM_OUT_LOAD: one edge of an OUT seam's clock. `qual` is the level of an ENABLE qualifier; `late`
says that an event which came less than t_a before its edge was sampled one edge later (R207, R208). -/
def State.seamOutEdge (s : State) (i : Nat) (qual late : Bool) : State :=
  if !s.seamTicks i || sgIn (s.seam i).cfg then s
  else
    let v := (s.seam i).cfg
    let (q, s0) := s.qualLevel i qual
    let s1 := if sgBounded v then s0.outBounded i q late else s0.outLockstep i q late
    (if sgKind v = 3 then s1.eventShow i q else s1).modSeam i (fun g => { g with srcFresh := 0 })

/-- What an IN seam captures at an allowed edge (R207, R209). -/
def State.seamCapture (s : State) (i : Nat) (w : DWord) : State :=
  let g := s.seam i
  let v := g.cfg
  let entry : SeamEntry := { word := w, age := 0 }
  let s1 := if !sgBounded v then
      if g.fifo.isEmpty && g.freeing.isEmpty then s.modSeam i (fun g => { g with fifo := [entry] })
      else s.modSeam i (fun g => if sgQual v = 1 then g.missed.over else g.missed)
    else if sgKind v = 1 then
      s.modSeam i (fun g => { g with
        fifo := (if g.offered then g.fifo.take 1 else []) ++ [entry], cad := sgCad v })
    else if 16 ≤ g.fifo.length + g.freeing.length then s.modSeam i Seam.over
    else s.modSeam i (fun g => { g with fifo := g.fifo ++ [entry], cad := sgCad v })
  s1.seamOffer i

/-- The levels of an IN seam's edge pins as the core side takes them in: under boundary scan the last ones
(R250). -/
def State.edgeLevels (s : State) (i : Nat) (pads : DWord) : DWord × State :=
  let g := s.seam i
  let bits := List.range (sgPins g.cfg)
  if s.jtag.ir.ownsPads then
    (BitVec.ofNat 64 (bits.foldl (fun v b => v + (if (s.pin (g.edgeBase + b)).seen then 2 ^ b else 0)) 0), s)
  else (pads, bits.foldl (fun s b =>
    s.modPin (g.edgeBase + b) (fun x => { x with seen := pads.getLsbD b, kept := pads.getLsbD b })) s)

/-- The transfer of an EVENT IN seam at an edge that cadence and qualifier allow, once the one before has been
acknowledged (R207, R214). A LOCKSTEP slot without a transfer is a miss, with an overrun while the crossing
is busy under ENABLE. -/
def Seam.eventIn (g : Seam) : Seam :=
  if !g.freeing.isEmpty then
    (if sgBounded g.cfg then g else if sgQual g.cfg = 1 then g.missed.over else g.missed)
  else if g.srcCount = 0 then (if sgBounded g.cfg then g else g.missed)
  else { g.receive g.srcCount with srcCount := 0, freeing := [0], cad := sgCad g.cfg }

/-- One edge cycle of an EVENT IN seam with its pin at `lvl`: an event is counted, and the cadence goes on
(R214). -/
def Seam.countEvent (lvl qual : Bool) (g : Seam) : Seam :=
  let ev := g.allows qual && (if sgEdge g.cfg then lvl && !g.lastLevel else lvl)
  let g1 := { g with lastLevel := lvl, cad := if g.cad = 0 then (if sgBounded g.cfg then 0 else sgCad g.cfg) else g.cad - 1 }
  let g2 := if !ev then g1 else if g1.srcCount = 63 then g1.over else { g1 with srcCount := g1.srcCount + 1 }
  if g.cad = 0 ∧ g.allows qual then g2.eventIn else g2

/-- SEAM_IN_CAPTURE: one edge of an IN seam's clock, with the levels of its edge pins. -/
def State.seamInEdge (s : State) (i : Nat) (pads : DWord) (qual : Bool) : State :=
  if !s.seamTicks i || !sgIn (s.seam i).cfg then s
  else
    let v := (s.seam i).cfg
    let (q, s1) := s.qualLevel i qual
    let (w, s2) := s1.edgeLevels i pads
    let g := s2.seam i
    let s3 := s2.setSeam i g.aged
    let s4 := if sgKind v = 3 then (s3.modSeam i (Seam.countEvent (w.getLsbD 0) q)).seamOffer i
      else if g.cad ≠ 0 then s3.modSeam i (fun g => { g with cad := g.cad - 1 })
      else
        let s4 := if sgBounded v then s3 else s3.modSeam i (fun g => { g with cad := sgCad v })
        if g.allows q then s4.seamCapture i w else s4
    s4.seamStrobe i (decide ((s4.seam i).fifo.length + (s4.seam i).freeing.length < sgPlaces v))

/-- SEAM_ROOM_VISIBLE: a freed place is seen on the other side: at once on the fabric side of an OUT
seam, and after s + 1 edges on the clocked side of an IN seam, so that the edge which comes next can use
it; PERT_SEAM adds one edge (R207, R208). -/
def State.seamRoom (s : State) (i : Nat) : State :=
  let g := s.seam i
  match g.freeing with
  | [] => s
  | a :: r =>
    if sgIn g.cfg && decide (a < g.edges - 1 + b2n (s.seamForced i)) then s
    else s.setSeam i { g with freeing := r }

/-- EVENT_SEAM_TRANSFER: the fabric side's act. A BOUNDED OUT seam puts its whole source count into the
crossing as soon as the previous transfer is acknowledged, which the clocked side then receives at an edge as
any entry; an IN seam offers its destination count when the taps are free (R207, R208, R214). -/
def State.eventStart (s : State) (i : Nat) : State :=
  let g := s.seam i
  if !g.running || sgKind g.cfg != 3 then s
  else if sgIn g.cfg then s.seamOffer i
  else if sgBounded g.cfg && g.fifo.isEmpty && g.freeing.isEmpty && g.srcCount != 0 then
    s.setSeam i { g with fifo := [{ word := BitVec.ofNat 64 g.srcCount, age := 0 }], srcCount := 0, srcFresh := 0 }
  else s

/-! ### Resets (R211–R213) -/

/-- Contents and counts cleared, epochs equal, the pending configuration in force; the clocked side
completes with GROUP_RESET_COMPLETE. -/
def Seam.groupReset (g : Seam) : Seam :=
  { g with
    cfg := g.pend, state := if sgKind g.pend = 0 then .off else .reset
    epochF := false, epochE := false, epochErr := false, holdPend := false, grpRst := false
    xfers := 0, flows := 0, misses := 0, fifo := [], freeing := [], offered := false, cad := 0
    inFlight := none, srcCount := 0, srcFresh := 0, dstCount := 0, offeredCount := 0, lastLevel := false
    shown := if sgIn g.pend then none else g.shown, driven := if sgIn g.pend then 0 else g.driven }

/-- The fabric side's reset of one seam: a word already complete on its taps is discarded (R213). -/
def State.discardWord (s : State) (i : Nat) : State :=
  if !sgIn (s.seam i).cfg && sgKind (s.seam i).cfg != 0 && (s.seamWord i).isSome then s.ackSeam i else s

/-- The edge pins of a seam, and its qualifier pin if it has one (R205). -/
def Seam.pinList (g : Seam) : List Nat :=
  (List.range (sgPins g.cfg)).map (g.edgeBase + ·) ++ (if sgQual g.cfg = 0 then [] else [sgQualPin g.cfg])

/-- The drivers of the pins that seam `i` only reads are off: the edge pins of an IN seam and an ENABLE
qualifier (R235). -/
def State.inputsOff (s : State) (i : Nat) : State :=
  let g := s.seam i
  ((if sgIn g.cfg ∧ sgKind g.cfg ≠ 0 then (List.range (sgPins g.cfg)).map (g.edgeBase + ·) else []) ++
    (if sgQual g.cfg = 1 ∧ sgKind g.cfg ≠ 0 then [sgQualPin g.cfg] else [])).foldl (fun s p =>
      if pcMode (s.pin p).cfg = 4 ∧ s.padFollows p then s.modPin p (Pin.setDrive none) else s) s

/-- A group reset of one member. A new configuration can name other pins, which then follow it (R216, R235,
R248). -/
def State.resetSeam (s : State) (i : Nat) : State :=
  let was := s.seam i
  let s1 := (s.discardWord i).modSeam i Seam.groupReset
  if was.pend = was.cfg then s1
  else ((was.pinList ++ (s1.seam i).pinList).foldl State.settleOwner s1).inputsOff i

/-- GRP_RST: every member of the seam's group is reset as one operation (R212). -/
def State.resetGroup (s : State) (i : Nat) : State :=
  (((List.range 256).filter (fun k => (s.seam k).group = (s.seam i).group)).foldl State.resetSeam s).modSeam i
    (fun g => { g with grpRst := true })

/-- A group reset that the seam's grp_rst started is in progress (R5, R213, R219). -/
def State.groupResetting (s : State) (i : Nat) : Bool :=
  (s.seam i).grpRst && (List.range 256).any (fun k => (s.seam k).group == (s.seam i).group && (s.seam k).state == .reset)

/-- RESET_N or a full load: both sides of every seam are reset (R212). -/
def State.resetAllSeams (s : State) : State := (List.range 256).foldl State.resetSeam s

/-- The clocks run as the image in force sets them: after a full load, once WAIT_LOCK has applied DEVICE
frame 30 and completed (R211, R287). -/
def State.clocksSet (s : State) : Bool :=
  s.cfg.boot != .tests && (s.cfg.boot != .sequence || s.cfg.seqDone.getLsbD 1)

/-- GROUP_RESET_COMPLETE: the clocked side completes on its edges; the depth is fixed (R211, R213). A STROBE
pin is driven from then on (R235). -/
def State.completeReset (s : State) (i : Nat) : State :=
  let g := s.seam i
  if g.state = .reset ∧ s.ecRuns (sgEc g.cfg) ∧ s.clocksSet then
    let s1 := s.setSeam i { g with
      state := .run, s3 := sgSync3 g.cfg || s.ecFast (sgEc g.cfg), strobeOn := sgQual g.cfg == 2 }
    if sgQual g.cfg = 2 then s1.seamStrobe i (sgIn g.cfg) else s1
  else s

/-- RST_F or the reload or fence of the seam's tile: the fabric side's epoch toggles. The epochs then differ,
and FAULT_HOLD follows, whatever another reset makes of them before it (log entry 42); a reset is absorbed by
a group reset in progress (R212, R213). -/
def Seam.resetF (g : Seam) : Seam :=
  if g.state = .run ∨ g.state = .faultHold then { g with epochF := !g.epochF, holdPend := g.state = .run } else g
/-- RST_E: the clocked side's epoch toggles in the same way (R212). -/
def Seam.resetE (g : Seam) : Seam :=
  if g.state = .run ∨ g.state = .faultHold then { g with epochE := !g.epochE, holdPend := g.state = .run } else g

/-- The fabric sides of the seams whose taps lie in tile `t` are reset. -/
def State.resetTileSeams (t : Nat) (s : State) : State :=
  ((List.range 64).map (fun i => 64 * (t / 32) + i)).foldl
    (fun s i => if s.seamTile i = t then s.modSeam i Seam.resetF else s) s

/-- FAULT_HOLD_ENTRY: the epochs have differed (R212). -/
def Seam.enterHold (g : Seam) : Seam :=
  if g.state = .run ∧ g.holdPend then { g with state := .faultHold, epochErr := true, holdPend := false } else g

/-- The PIN conditions of R205 and R231 on a seam's pins and taps (R216). -/
def State.seamPinsOk (s : State) (i : Nat) (v : Word) : Bool :=
  let g := s.seam i
  let pins := (List.range (sgPins v)).map (g.edgeBase + ·) ++ (if sgQual v = 0 then [] else [sgQualPin v])
  pins.all (fun p => pcMode (s.pin p).cfg == 4) &&
  (List.range (sgTaps v)).all (fun d => !s.tapPinned (s.seamTile i) (g.tap + d))

/-- SEAM_CFG_WRITE: checked, and held as pending until the next group reset (R216). -/
def State.writeSeamCfg (s : State) (i : Nat) (v : Word) : State :=
  if s.seamFault i v (fun k => [(s.seam k).cfg, (s.seam k).pend]) ||
      (sgKind v != 0 && !s.seamPinsOk i v) then
    s.modSeam i (fun g => { g with cfgRej := true })
  else s.modSeam i (fun g => { g with pend := v })

/-- cnt_clr (R218). -/
def Seam.clearCounts (g : Seam) : Seam := { g with xfers := 0, flows := 0, misses := 0 }

/-! ### The meanings -/

def execSeamWordAccept (i : SeamId) (s : State) : Result := .next (s.seamAccept i)
def execSeamOutLoad (i : SeamId) (qual late : Bool) (s : State) : Result :=
  .next (s.seamOutEdge i qual late)
def execSeamInCapture (i : SeamId) (pads : DWord) (qual : Bool) (s : State) : Result :=
  .next (s.seamInEdge i pads qual)
def execSeamRoomVisible (i : SeamId) (s : State) : Result := .next (s.seamRoom i)

def execEventSeamTransfer (i : SeamId) (s : State) : Result := .next (s.eventStart i)

def execFaultHoldEntry (i : SeamId) (s : State) : Result := .next (s.modSeam i Seam.enterHold)
def execGrpRst (i : SeamId) (s : State) : Result := .next (s.resetGroup i)
def execGroupResetComplete (i : SeamId) (s : State) : Result := .next (s.completeReset i)
def execRstF (i : SeamId) (s : State) : Result := .next (s.modSeam i Seam.resetF)
def execRstE (i : SeamId) (s : State) : Result := .next (s.modSeam i Seam.resetE)
def execSeamCntClr (i : SeamId) (s : State) : Result := .next (s.modSeam i Seam.clearCounts)
def execSeamCfgWrite (i : SeamId) (v : Word) (s : State) : Result := .next (s.writeSeamCfg i v)

end Sys2Proof.Machine
end

