-- ==== Sys2Proof/Machine/Fabric.lean ====
section
/-! DEFINITION. LANE_HANDSHAKE and TOK_RATE_WINDOW: the handshake of one element of the fabric moves
on, and the token counts of a window (R10, R49). -/

namespace Sys2Proof.Machine

/-- A cell that never offers a token (R31). -/
def unusedCell (w : Nat) : Bool :=
  cwMode w == 0 && !cwCarry w && (List.range 4).all (fun i => cwSel w i == 63)

/-- A code checker of a cell output or of a carry lane sees a fault; an unused cell and a discarded
carry-out never trip theirs (R45). -/
def State.tripCell (s : State) (t c k : Nat) (carry illegal : Bool) : State :=
  if !s.moves t then s
  else if carry && !s.carryActive t c k then s
  else if !carry && unusedCell (s.cellWord t c k) then s
  else s.reportCode 0x01 t c k carry illegal

/-- A spine's code checker sees a fault (R66). -/
def State.tripSpine (s : State) (t sp : Nat) (illegal : Bool) : State :=
  if s.moves t then s.reportCode 0x02 t sp 0 false illegal else s

/-- An inward lane goes on; the seam that drives it may then have its acknowledge (R207). -/
def State.stepInwardPort (s : State) (t p l : Nat) : State :=
  let s1 := s.stepInward t p l
  if p < 16 then
    match s1.tapSeam t p with
    | some i => s1.seamAcked i
    | none => s1
  else s1

/-- A tap of tile `t` that TILE_CTRL.tap_ev names, and that no seam or pin has, has a complete outward word
that it did not have in `s0` (R147, R149, R204, R230). -/
def State.tapFills (s0 s : State) (t : Nat) : Bool :=
  (List.range 16).any (fun j => (s0.tile t).tapEv.getLsbD j && (s0.tapWord t j).isNone && (s.tapWord t j).isSome &&
    !s0.tapTaken t j)

/-- A word that becomes complete on such a tap sets event bit 14 of the tile (R147). -/
def State.noticeTaps (s0 : State) (t : Nat) (s : State) : State :=
  if s0.tapFills s t then s.setEvents t 0x4000#16 else s

/-- One handshake step at a place of the fabric. -/
def State.handshake (s : State) : Site → State
  | .cell t c k => s.noticeTaps t (s.stepCell t c k)
  | .carry t c k => s.stepCarry t c k
  | .memWrite t c => s.stepWrite t c
  | .lane t c l => s.stepLane t c l
  | .pip t c l => s.stepPip t c l
  | .welt t c l => s.stepWelt t c l
  | .spine t sp upset => s.stepSpine t sp (upset.map (·.val))
  | .outward t p l => s.stepOutward t p l
  | .inward t p l => s.stepInwardPort t p l
  | .pinSample p ball => s.stepPinIn p ball
  | .pinOutput p => s.stepPinOut p
  | .pace n => s.stepPace n
  | .cellChecker t c k carry illegal => s.tripCell t c k carry illegal
  | .spineChecker t sp illegal => s.tripSpine t sp illegal

/-- The count of one tile's window: divided by 256 and rounded down, 0 while gated or fenced (R49). -/
def Tile.endWindow (x : Tile) : Tile :=
  { x with tokRate := if x.power.off || x.fenced then 0 else x.tokCount / 256, tokCount := 0 }

/-- A window ends at a TIME that is a multiple of 100, once (R49). -/
def State.endTokWindow (s : State) : State :=
  if s.time % 100 = 0 ∧ s.wires.tokEnd ≠ s.time then
    let s1 := (List.range 128).foldl (fun s t => s.modTile t Tile.endWindow) s
    { s1 with wires := { s1.wires with tokEnd := s.time } }
  else s

/-! ### The meanings -/

def execLaneHandshake (site : Site) (s : State) : Result := .next (s.handshake site)

def execTokRateWindow (s : State) : Result := .next s.endTokWindow

end Sys2Proof.Machine
end

