-- ==== Sys2Proof/Machine/Pacers.lean ====
section
/-! DEFINITION. Pacers (chapter 04): their edges, ticks, the lead buffer, debt, and the writes that start,
stop and move a pacer. PACE_TICK is a run of edges of one edge clock at a pacer, whatever each of them
does; DEBT_REPAY is one edge, which applies if it repays (log entry 20). -/

namespace Sys2Proof.Machine

/-! ### Values in force (R87, R93) -/

/-- PACE_INC as last written. -/
def Pacer.incWritten (p : Pacer) : Word := (p.nextInc.getLast?.map (·.1)).getD p.inc
/-- PACE_CTRL.ec as last written. -/
def Pacer.ecWritten (p : Pacer) : Nat := (p.nextEc.getLast?.map (·.1)).getD p.ec

/-- The increment of an edge at HK cycle `now`, and the writes that it is too early for (R87). -/
def dueInc (now : Nat) (inc : Word) : List (Word × Nat) → Word × List (Word × Nat)
  | [] => (inc, [])
  | (v, d) :: r => if d ≤ now then dueInc now v r else (inc, (v, d) :: r)

/-- The writes of ec after the last one that an edge of clock `e` at HK cycle `now` puts in force; none if
there is no such write (R87). -/
def dueEc (now e : Nat) : List (Nat × Nat) → Option (List (Nat × Nat))
  | [] => none
  | (c, d) :: r => (dueEc now e r).or (if c = e ∧ d ≤ now then some r else none)

/-- The pacer on an edge of clock `e`, with the written values that the edge puts in force; none when the
edge is of another clock (R87). -/
def Pacer.onEdge (now e : Nat) (p : Pacer) : Option Pacer :=
  let (inc, later) := dueInc now p.inc p.nextInc
  match dueEc now e p.nextEc with
  | some r => some { p with ec := e, nextEc := r, inc := inc, nextInc := later }
  | none => if p.ec = e then some { p with inc := inc, nextInc := later } else none

/-- The pacer ticks: enabled, started and not held (R85, R86, R89, R96). -/
def State.pacerRuns (s : State) (p : Pacer) : Bool := p.en && s.cfg.pacersStarted && p.held.isNone

/-- A written depth takes effect (R93). -/
def Pacer.newDepth (p : Pacer) : Pacer := { p with depth := p.nextDepth.getD p.depth, nextDepth := none }

/-! ### Places and debt (R81, R82) -/

/-- A place is free as the pacer sees it; none is while a change of join waits (R81, R83, R87, R93). -/
def Pacer.free (p : Pacer) : Bool := p.joinPend.isNone && (!p.offered || decide (p.lead < p.depth))

/-- A token is issued (R81). -/
def Pacer.issue (p : Pacer) : Pacer :=
  let lead := if p.offered then p.lead + 1 else p.lead
  { p with issued := p.issued + 1, offered := true, lead := lead, leadMax := max p.leadMax lead }

/-- A deficit event (R81, R82, R95). -/
def Pacer.miss (p : Pacer) : Pacer :=
  let q := { p with deficits := sat 0xFFFF (p.deficits + 1), deficit := true, fresh := true }
  if !p.bank then q
  else if p.debt = 0xFFFF then { q with debtOvf := true } else { q with debt := p.debt + 1 }

/-- One owed token is sent (R82). -/
def Pacer.repay (p : Pacer) : Pacer := { p.issue with debt := p.debt - 1 }

/-! ### One edge (R78, R82, R91, R98, R384) -/

/-- PERT_PACE acts on pacer `n` (R384). -/
def State.paceJitter (s : State) (n : Nat) : Bool := s.pert.en.getLsbD 6 && decide (fld s.pert.pace 0 6 = n)

/-- The edges by which a tick of pacer `n` is late: a free value up to the field of PERT_PACE (R384, log
entry 7), 0 without it. -/
def State.drawDelay (s : State) (n : Nat) : Nat × State :=
  if s.paceJitter n then
    let (w, s1) := s.drawWord
    (w.toNat % (fld s.pert.pace 8 4 + 1), s1)
  else (0, s)

/-- The accumulator takes an edge: whether the addition carries out of bit 31, and the pacer after it. An
edge with a pending acc_clr clears the accumulator and adds nothing (R78, R91, R98). -/
def Pacer.add (runs : Bool) (p : Pacer) : Bool × Pacer :=
  if p.accClr then (false, { p with acc := 0, accClr := false })
  else if !runs then (false, p)
  else (decide (2 ^ 32 ≤ p.acc + p.inc.toNat), { p with acc := (p.acc + p.inc.toNat) % 2 ^ 32 })

/-- The ticks that wait, each one edge nearer: whether one is due on this edge, and the pacer with the
others (R384). -/
def Pacer.nextLate (p : Pacer) (new : List Nat) : Bool × Pacer :=
  match p.late.map (· - 1) ++ new with
  | 0 :: r => (true, { p with late := r })
  | l => (false, { p with late := l })

/-- What an edge does to a running pacer (R81, R82). -/
def Pacer.edge (tick : Bool) (p : Pacer) : Pacer :=
  if tick then (if p.newDepth.free then p.newDepth.issue else p.newDepth.miss)
  else if p.free ∧ 0 < p.debt then p.repay
  else p

/-- One rising edge of edge clock `e` at pacer `n`; a stopped clock has none (R78, R82, R86). -/
def State.paceEdge (e n : Nat) (s : State) : State :=
  if !s.ecRuns e then s
  else match (s.pacer n).onEdge s.time e with
    | none => s
    | some p =>
      let runs := s.pacerRuns p
      let (carry, p1) := p.add runs
      if !runs || p.accClr then (s.setPacer n (if runs then p1.edge false else p1)).offerPace n
      else
        let (d, s1) := if carry then s.drawDelay n else (0, s)
        let (tick, p2) := p1.nextLate (if carry then [d] else [])
        (s1.setPacer n (p2.edge tick)).offerPace n

/-- PACE_TICK: a run of edges (R78–R82). -/
def State.paceEdges (e n : Nat) : Nat → State → State
  | 0, s => s
  | k + 1, s => (s.paceEdge e n).paceEdges e n k

/-- DEBT_REPAY (R82): an edge with no tick that sends an owed token. -/
def State.debtRepay (e n : Nat) (s : State) : State :=
  let t := s.paceEdge e n
  if (t.pacer n).debt < (s.pacer n).debt then t else s

/-- TAKE_VISIBLE (R83, R94): one take has crossed to the clocked side. -/
def Pacer.seeTake (p : Pacer) : Pacer :=
  if p.unseen = 0 then p
  else { p with
    unseen := p.unseen - 1, count := (p.count + 1) % 2 ^ 64
    lead := p.lead - 1, offered := decide (0 < p.lead) }

/-- Another enabled pacer of the quadrant names the join, or waits to move to it (R77). While a change
waits, the old join counts as named as well as the new one (DESIGN CHOICE, log entry 84). -/
def State.joinTaken (s : State) (n : Nat) (t : BitVec 5) (c : BitVec 10) : Bool :=
  ((List.range 16).map (fun i => 16 * (n / 16) + i)).any (fun k =>
    let p := s.pacer k
    k != n && p.en && ((p.joinTile == t && p.joinCluster == c) || p.joinPend == some (t, c)))

/-- cnt_clr at the pacer (R91). -/
def Pacer.clearCount (p : Pacer) : Pacer := { p with count := 0, deficits := 0 }
/-- The latched upper halves of the count of pacer `n` are gone from every core (R94). -/
def State.dropLatches (n : Nat) (s : State) : State :=
  { s with cores := SMap.mapVals Core.init (fun _ x => { x with paceLatch := SMap.erase x.paceLatch n }) s.cores }
/-- cnt_clr: both halves of the count clear, a latched one too (R91, R94). -/
def State.clearPaceCount (s : State) (n : Nat) : State := (s.modPacer n Pacer.clearCount).dropLatches n
/-- acc_clr, on the pacer's next edge (R91). -/
def Pacer.askAccClr (p : Pacer) : Pacer := { p with accClr := true }
/-- debt_clr (R91). -/
def Pacer.clearDebt (p : Pacer) : Pacer := { p with debt := 0 }
/-- lead_max_clr (R93). -/
def Pacer.clearLeadMax (p : Pacer) : Pacer := { p with leadMax := p.lead }

/-- Another join is asked for than the one in force (R87). A further write while a change waits replaces
it, and one that names the old join ends it (DESIGN CHOICE, log entry 84). -/
def Pacer.askJoin (t : BitVec 5) (c : BitVec 10) (p : Pacer) : Pacer :=
  { p with joinPend := if t = p.joinTile ∧ c = p.joinCluster then none else some (t, c) }

/-- Another edge clock is asked for (R87). -/
def Pacer.askEc (now e : Nat) (p : Pacer) : Pacer :=
  if e = p.ecWritten then p else { p with nextEc := p.nextEc ++ [(e, now + 2)] }

/-- A PACE_CTRL write (R87, R91). -/
def State.writePaceCtrl (s : State) (n : Nat) (v : Word) : State :=
  let p := s.pacer n
  let t := BitVec.ofNat 5 (fld v 8 5)
  let c := BitVec.ofNat 10 (fld v 13 10)
  if bitOf v 0 && s.joinTaken n t c then s.setPacer n { p with cfgRej := true }
  else
    let p1 := ({ p with en := bitOf v 0, bank := bitOf v 4, deficitIe := bitOf v 5, govExcl := bitOf v 24 }
      : Pacer).askJoin t c
    let p2 := p1.askEc s.time (fld v 1 3)
    let p3 := if bitOf v 6 then p2.askAccClr else p2
    let p4 := if bitOf v 23 then p3.clearDebt else p3
    if bitOf v 7 then (s.setPacer n p4).clearPaceCount n else s.setPacer n p4

/-- JOIN_CHANGE (R87): the old join has taken every token. -/
def State.joinChange (s : State) (n : Nat) : State :=
  let p := s.pacer n
  match p.joinPend with
  | some (t, c) =>
    if p.offered ∨ 0 < p.lead then s
    else (s.setPacer n { p with joinTile := t, joinCluster := c, joinPend := none }).setNode
      (paceNode n) (Node.init 0)
  | none => s

/-- A PACE_INC write (R87). -/
def State.writePaceInc (s : State) (n : Nat) (v : Word) : State :=
  s.modPacer n (fun p => { p with nextInc := p.nextInc ++ [(v, s.time + 2)] })

/-- START_PACERS on one pacer (R78, R85, R93–R95). -/
def Pacer.start (p : Pacer) : Pacer :=
  { p with acc := 0, accClr := false, late := [], count := 0, deficits := 0, fresh := false, leadMax := 0 }

/-- START_PACERS (R85). -/
def State.startPacers (s : State) : State :=
  let s1 := (List.range 64).foldl (fun s n => (s.modPacer n Pacer.start).dropLatches n) s
  { s1 with cfg := { s1.cfg with pacersStarted := true } }

/-- The places are empty and the accumulator and debt clear; a pending join takes effect (R87, R89). -/
def Pacer.emptied (p : Pacer) : Pacer :=
  { p with
    lead := 0, offered := false, issued := 0, unseen := 0, debt := 0, acc := 0, accClr := false, late := []
    joinTile := (p.joinPend.getD (p.joinTile, p.joinCluster)).1
    joinCluster := (p.joinPend.getD (p.joinTile, p.joinCluster)).2, joinPend := none }

/-- The pacers whose join lies in tile `t`. -/
def State.pacersOf (s : State) (t : Nat) : List Nat :=
  ((List.range 16).map (fun i => 16 * (t / 32) + i)).filter (fun n => (s.pacer n).joinTile.toNat = t % 32)

/-- The join tile `t` of region `r` enters LOADING: the pacers are cleared, and held until that region is
released, one whose pending change takes it to another tile too (R87, R89, R306). A full load holds no pacer:
START_PACERS starts them all, those of a region that is not yet released too (DESIGN CHOICE, log entry 97). -/
def State.holdPacers (r t : Nat) (s : State) : State :=
  (s.pacersOf t).foldl (fun s n =>
    (s.modPacer n (fun p => { p.emptied with held := some r })).setNode (paceNode n) (Node.init 0)) s

/-- A held pacer resumes from a cleared accumulator (R89, R314). -/
def Pacer.resume (p : Pacer) : Pacer := { p with held := none, acc := 0 }

/-- Region `r` is released: the pacers that its reload holds resume, wherever their joins lie now (R89, R314). -/
def State.unholdPacers (r : Nat) (s : State) : State :=
  (List.range 64).foldl (fun s n => s.modPacer n (fun p => if p.held = some r then p.resume else p)) s

/-! ### The meanings -/

def execPaceTick (run : Fin 8 × PacerId × Nat) (s : State) : Result := .next (s.paceEdges run.1 run.2.1 run.2.2)
def execDebtRepay (edge : Fin 8 × PacerId) (s : State) : Result := .next (s.debtRepay edge.1 edge.2)
def execTakeVisible (n : PacerId) (s : State) : Result := .next (s.modPacer n Pacer.seeTake)
def execPaceCtrlWrite (n : PacerId) (v : Word) (s : State) : Result := .next (s.writePaceCtrl n v)
def execJoinChange (n : PacerId) (s : State) : Result := .next (s.joinChange n)
def execPaceIncWrite (n : PacerId) (v : Word) (s : State) : Result := .next (s.writePaceInc n v)
def execAccClr (n : PacerId) (s : State) : Result := .next (s.modPacer n Pacer.askAccClr)
def execPaceCntClr (n : PacerId) (s : State) : Result := .next (s.clearPaceCount n)
def execDebtClr (n : PacerId) (s : State) : Result := .next (s.modPacer n Pacer.clearDebt)
def execLeadMaxClr (n : PacerId) (s : State) : Result := .next (s.modPacer n Pacer.clearLeadMax)

end Sys2Proof.Machine
end

