-- ==== Sys2Proof/Machine/Clocks.lean ====
section
/-! DEFINITION. The root PLL, the edge clocks and the phase loops (R196–R202, R221–R225). -/

namespace Sys2Proof.Machine

/-- The phase loops lose lock. -/
def State.phasesLost (s : State) : State :=
  (List.range 4).foldl (fun s q => s.modPhase q (fun x => { x with lock := false })) s

/-- Settings that R196 refuses: out of range, or an enabled edge clock above 650 MHz. -/
def State.pllRefused (s : State) (p : Pll) : Bool :=
  !p.inRange || (List.range 8).any (fun n => (s.ec n).en && p.above ((s.ec n).div.toNat + 1) 650)

/-- The PLL starts to lock to settings `p`: every edge clock stops, EC7 goes to XIN (R198). -/
def State.startLock (s : State) (p : Pll) : State :=
  { s.phasesLost with clk := { s.phasesLost.clk with now := p, rootLock := false, relocking := true } }

/-- A write of 1 to CLK_ROOT.relock: refused when it breaks R196; nothing locks while the PLL is off (R196,
R198, R221). -/
def State.relock (s : State) : State :=
  if s.pllRefused s.clk.held then { s with clk := { s.clk with cfgRej := true } }
  else if !s.clk.pllEn then s
  else { s.startLock s.clk.held with clk := { (s.startLock s.clk.held).clk with relockAct := true } }

/-- ROOT_LOCK: the PLL has locked; every divider restarts from the lock origin, and the phase loops
start to lock (R197, R200). -/
def State.rootLocked (s : State) : State :=
  if !s.clk.pllEn || s.clk.rootLock then s
  else { s.phasesLost with clk := { s.phasesLost.clk with
    rootLock := true, relocking := false, relockAct := false, xinStopped := false } }

/-- LOCK_LOSS: every edge clock but EC7 stops, EC7 goes to XIN or stops with it, the fault is recorded,
and the PLL tries to relock to its present settings (R199). -/
def State.loseLock (s : State) (xin : Bool) : State :=
  if !xin && !s.clk.rootLock then s
  else
    let s1 := s.phasesLost
    { s1 with clk := { s1.clk with
      rootLock := false, relocking := s1.clk.pllEn
      unlock := s1.clk.unlock || !xin, xinFail := s1.clk.xinFail || xin
      xinStopped := s1.clk.xinStopped || xin } }.report
      { Report.of 0x0B with dev := true, detail := word (b2n (!xin) + 2 * b2n xin) }

/-- A write of pll_en (R221). -/
def State.writePllEn (s : State) (on : Bool) : State :=
  if on = s.clk.pllEn then s
  else if on then
    let s1 := { s with clk := { s.clk with pllEn := true } }
    if s1.pllRefused s1.clk.held then
      { s1 with clk := { s1.clk with cfgRej := true } }.startLock s1.clk.now
    else s1.startLock s1.clk.held
  else { s.phasesLost with clk := { s.phasesLost.clk with
    pllEn := false, rootLock := false, relocking := false, relockAct := false } }

/-- A CLK_ECn write (R201, R224). -/
def State.writeEc (s : State) (n : Nat) (v : Word) : State :=
  if bitOf v 12 && s.clk.now.above (fld v 0 12 + 1) 650 then
    { s with clk := { s.clk with cfgRej := true } }
  else s.setEc n { div := BitVec.ofNat 12 (fld v 0 12), en := bitOf v 12 }

/-- A CLK_PHASEq write: a loop that is turned on starts to lock, one turned off loses lock (R225). -/
def State.writePhase (s : State) (q : Nat) (v : Word) : State :=
  s.modPhase q (fun x => { x with
    en := bitOf v 0, trim := BitVec.ofNat 6 (fld v 8 6), lock := x.lock && bitOf v 0 })

/-- PHASE_LOCK: the loop of quadrant `q` reports lock, with its residual error (R197, R225). -/
def State.phaseLocked (s : State) (q : Nat) (err : Byte) : State :=
  if s.clk.rootLock && (s.phase q).en then s.modPhase q (fun x => { x with lock := true, err := err })
  else s

/-- The PLL settings that words 0 and 1 of DEVICE frame 30 or CLK_ROOT and CLK_FRAC hold (R221, R222). -/
def pllOf (root frac : Word) : Pll where
  n := fld root 0 8
  post := fld root 8 2
  fracEn := bitOf root 11
  frac := fld frac 0 24

/-- Word `w` of a frame (R277). -/
def frameWord (f : Frame) (w : Nat) : Word := word (f.toNat >>> (32 * w))

/-- WAIT_LOCK applies DEVICE frame 30 and relocks when the settings differ (R197). -/
def State.applyClocks (s : State) : State :=
  match s.clk.frame30 with
  | none => s
  | some f =>
    let p := pllOf (frameWord f 0) (frameWord f 1)
    let s1 := (List.range 8).foldl (fun s n =>
      let v := frameWord f (2 + n)
      s.setEc n { div := BitVec.ofNat 12 (fld v 0 12), en := bitOf v 12 }) s
    let s2 := (List.range 4).foldl (fun s q => s.writePhase q (frameWord f (10 + q))) s1
    let s3 := { s2 with clk := { s2.clk with held := p, xinMode := bitOf (frameWord f 0) 10 } }
    if !bitOf (frameWord f 0) 12 then s3.writePllEn false
    else if p ≠ s3.clk.now then s3.startLock p else s3

/-- WAIT_LOCK can complete: the PLL and all four phase loops report lock (R197). -/
def State.allLocked (s : State) : Bool :=
  s.clk.rootLock && (List.range 4).all (fun q => (s.phase q).lock)

/-- CLK_ROOT, CLK_FRAC, CLK_EC0–7 and CLK_PHASE0–3 as at reset; what the loops report stays (R279). -/
def Clk.cleared (c : Clk) : Clk :=
  { c with
    held := Pll.init, xinMode := false, pllEn := true, ecs := [], frame30 := none
    phases := SMap.mapVals PhaseLoop.init (fun q x => { PhaseLoop.init q with lock := x.lock, err := x.err }) c.phases }

/-- A full load that follows the start-up sequence returns the clocks to their reset values and relocks
(R259). -/
def State.resetClocks (s : State) : State := { s with clk := s.clk.cleared }.startLock Pll.init

/-- The clock registers at the start of any full load; the PLL relocks when it does not run at the reset
settings, which every full load needs (R259, R279). -/
def State.clearClocks (s : State) : State :=
  if s.clk.now = Pll.init ∧ s.clk.pllEn then { s with clk := s.clk.cleared } else s.resetClocks

/-! ### The meanings -/

def execRootLock (s : State) : Result := .next s.rootLocked
def execPhaseLock (q : Fin 4) (err : Byte) (s : State) : Result := .next (s.phaseLocked q err)
def execLockLoss (xinFail : Bool) (s : State) : Result := .next (s.loseLock xinFail)
def execRelock (s : State) : Result := .next s.relock
def execPllEnWrite (on : Bool) (s : State) : Result := .next (s.writePllEn on)
def execClkEcWrite (n : Fin 8) (v : Word) (s : State) : Result := .next (s.writeEc n v)
def execClkPhaseWrite (q : Fin 4) (v : Word) (s : State) : Result := .next (s.writePhase q v)

end Sys2Proof.Machine
end

