-- ==== Sys2Proof/Machine/Banks.lean ====
section
/-! DEFINITION. Memory as the cores and the fabric reach it: lanes of a word, posted stores, port F,
arbitration windows, atomics, the patrol and the clearing of a tile (chapter 05, R132–R139). -/

namespace Sys2Proof.Machine

/-! ### Lanes of a word (R21, R132) -/

/-- The bytes of its word that an access of width `w` at `addr` names. -/
def lanesOf (addr : Word) (w : MemWidth) : BitVec 4 :=
  BitVec.ofNat 4 ((2 ^ widthBytes w - 1) * 2 ^ (addr.toNat % 4))

/-- Store data moved to its lanes. -/
def laneData (addr d : Word) : Word := d <<< (8 * (addr.toNat % 4))

/-- What a load takes from its word, extended to 32 bits (R132). -/
def extract (addr w : Word) (width : MemWidth) (signed : Bool) : Word :=
  let v := (w.toNat >>> (8 * (addr.toNat % 4))) % 2 ^ (8 * widthBytes width)
  if signed then sext (8 * widthBytes width) v else word v

/-- The bits of the enabled bytes. -/
def byteMask (en : BitVec 4) : Word :=
  word (((List.range 4).map (fun i => if en.getLsbD i then 0xFF * 2 ^ (8 * i) else 0)).sum)

/-- The word with the enabled bytes taken from `new`. -/
def mergeBytes (old new : Word) (en : BitVec 4) : Word := merge old new (byteMask en)

/-- The word that an address names, the same for every alias of it (R19). -/
def wordKey (c : Nat) (addr : Word) : Target := target c (addr &&& 0xFFFFFFFC#32)

/-- The bytes of a word that core `c`'s posted stores hold, the youngest store winning (R135). -/
def State.posted (s : State) (c : Nat) (addr : Word) : BitVec 4 × Word :=
  (s.core c).stores.foldl (fun (m, d) x =>
    if wordKey c x.addr = wordKey c addr then
      (m ||| lanesOf x.addr x.width, mergeBytes d (laneData x.addr x.data) (lanesOf x.addr x.width))
    else (m, d)) ((0, 0) : BitVec 4 × Word)

/-- Posted stores hold every byte that the load wants, so it makes no access (R135). -/
def State.forwarded (s : State) (c : Nat) (x : Load) : Bool :=
  let en := lanesOf x.addr x.width
  (s.posted c x.addr).1 &&& en == en

/-- A bit error that has come about in word `wa` since its last access: `false` a single bit, `true` two
bits (R113, log entry 18). A poison mark stays (R116). -/
def State.upset (s : State) (wa : Nat) (u : Option Bool) : State :=
  match u, s.eccAt wa with
  | none, _ => s
  | some _, some .poison => s
  | some _, some (.double i _) => s.setEcc wa (some (.double i false))
  | some false, none => s.setEcc wa (some (.single none))
  | some false, some (.single p) => s.setEcc wa (some (.double p.isSome false))
  | some true, none => s.setEcc wa (some (.double false false))
  | some true, some (.single p) => s.setEcc wa (some (.double p.isSome false))

/-! ### A core's accesses to a word of memory -/

/-- A load of word `wa` performed: its reply, with the bytes of posted stores put over it (R135). -/
def State.loadWord (s : State) (c wa : Nat) (addr : Word) : Reply × State :=
  if !s.memServes wa then (.err .access, s)
  else match s.memRead wa with
    | (.data d, s1) =>
      let (m, p) := s.posted c addr
      (.data (mergeBytes d p m), s1)
    | (.err e, s1) => (.err e, s1)

/-- A store to word `wa` performed: the cause with which it fails, if it does (R137). -/
def State.storeWord (s : State) (wa : Nat) (x : Store) : Option Cause × State :=
  if !s.memServes wa then (some .access, s)
  else s.memWrite wa (lanesOf x.addr x.width) (laneData x.addr x.data)

/-- The oldest posted store leaves the buffer; an error waits for the next instruction boundary, the
first one of several (R135, R137). -/
def State.storeDone (c : Nat) (x : Store) (e : Option Cause) (s : State) : State :=
  s.modCore c (fun y => { y with
    stores := y.stores.drop 1
    storeErr := match y.storeErr with
      | some o => some o
      | none => e.map (fun k => (k, x.addr)) })

/-- AADD and ASWP: the word at ra, with no offset, becomes `op old rb`, and rd takes the old value, once
every earlier store has been performed (R110, R111, R139, R406). -/
def atomicBody (op : Word → Word → Word) (c : Nat) (w : Word) (s : State) : State :=
  let a := s.reg c (raF w)
  let pc := (s.core c).pc
  if !s.released c then s
  else match s.accessCheck c a .word .atomic with
    | some e => s.trap c e pc a
    | none =>
      match s.memAtomic (a.toNat / 4) (fun old => op old (s.reg c (rbF w))) with
      | (.data old, s1) => (s1.setReg c (rdF w) old).retire c (s.pc4 c)
      | (.err e, s1) => s1.trap c e pc a

/-- The new word of ASWP. -/
def aluSwap (_a b : Word) : Word := b

/-! ### Port F (R102, R103) -/

/-- Port F lane `r` as tap and lane (R102). -/
def fLane (r : Nat) : Nat × Nat := (12 + r / 16, r % 16)

/-- The number on outward lanes `lo` to `lo + len - 1` of port F. -/
def State.fField (s : State) (t lo len : Nat) : Nat :=
  (List.range len).foldl (fun v i =>
    v + (if s.outward t (fLane (lo + i)).1 (fLane (lo + i)).2 = some true then 2 ^ i else 0)) 0

/-- The fabric has taken the response that is offered (R103). -/
def State.fTaken (s : State) (t : Nat) : Bool :=
  (s.tile t).fOffered && (List.range 34).all (fun r => s.inwardFree t (fLane r).1 (fLane r).2)

/-- Requests accepted and not yet answered: TILE_BANK.f_out (R103, R120). -/
def State.fOut (s : State) (t : Nat) : Nat :=
  (s.tile t).fReqs.length + (s.tile t).fResps.length - b2n (s.fTaken t)

/-- The oldest response is dropped once the fabric has taken it. -/
def State.fSettle (s : State) (t : Nat) : State :=
  if s.fTaken t then s.modTile t (fun x => { x with fResps := x.fResps.drop 1, fOffered := false }) else s

/-- PORT_F_REQUEST: a complete request is latched and acknowledged while fewer than four are in flight (R103). -/
def State.fRequest (s0 : State) (t : Nat) : State :=
  let s := s0.fSettle t
  if (s.tile t).fEn && s.moves t && decide (s.fOut t < 4) &&
      (List.range 54).all (fun r => (s.outward t (fLane r).1 (fLane r).2).isSome) then
    let q : FReq := {
      op := s.fField t 47 3, waddr := s.fField t 32 15
      ben := BitVec.ofNat 4 (s.fField t 50 4), wdata := word (s.fField t 0 32) }
    let s1 := (List.range 4).foldl (fun s d =>
      s.takeOutward t (12 + d) (List.range (if d = 3 then 6 else 16))) s
    s1.modTile t (fun x => { x with fReqs := x.fReqs ++ [q] })
  else s

/-- PORT_F_RESPONSE: the oldest response is offered on inward lanes 0–33 together (R102, R103). -/
def State.fRespond (s0 : State) (t : Nat) : State :=
  let s := s0.fSettle t
  match (s.tile t).fResps with
  | [] => s
  | r :: _ =>
    if (s.tile t).fOffered || !s.moves t ||
        !(List.range 34).all (fun l => s.inwardFree t (fLane l).1 (fLane l).2) then s
    else
      ((List.range 34).foldl (fun s l =>
        s.offerInward t (fLane l).1 (fLane l).2
          (if l < 32 then r.rdata.getLsbD l else if l = 32 then r.err else r.superseded)) s).modTile t
        (fun x => { x with fOffered := true })

/-- The word that a port F request names. -/
def fWord (t : Nat) (q : FReq) : Nat := bankWord t + q.waddr

/-- The request writes: WRITE, AADD or ASWP (R108). -/
def FReq.writes (q : FReq) : Bool := q.op != 0

/-- A port F operation performed: its response, and the bytes and data that it stored (R102, R103, R110,
R115–R117). -/
def State.fPerform (s : State) (t : Nat) (q : FReq) : FResp × Option (BitVec 4 × Word) × State :=
  let bad : FResp := { rdata := 0, err := true, superseded := false }
  let wa := fWord t q
  let atomic := fun (f : Word → Word) =>
    match s.memAtomic wa f with
    | (.data old, s1) => (({ rdata := old, err := false, superseded := false } : FResp), some ((15 : BitVec 4), f old), s1)
    | (.err _, s1) => (bad, none, s1)
  if !s.bankServes t then (bad, none, s)
  else if q.op = 0 then
    match s.memRead wa with
    | (.data d, s1) => ({ rdata := d, err := false, superseded := false }, none, s1)
    | (.err _, s1) => (bad, none, s1)
  else if q.op = 1 then
    if q.ben = 0 then (bad, none, s)
    else match s.memWrite wa q.ben q.wdata with
      | (none, s1) => ({ rdata := 0, err := false, superseded := false }, some (q.ben, q.wdata), s1)
      | (some _, s1) => (bad, none, s1)
  else if q.op = 2 then atomic (fun old => old + q.wdata)
  else if q.op = 3 then atomic (fun _ => q.wdata)
  else (bad, none, s)

/-! ### Port P (R101) -/

/-- The core whose request it is. -/
def accCore : PAccess → Nat
  | .load c => c
  | .store c => c
  | .atomic c _ => c

/-- Two requests are for one access: a core has one load and one atomic operation at a time, and its posted
stores are performed in order (R135). -/
def accSame : PAccess → PAccess → Bool
  | .load c, .load d => c == d
  | .store c, .store d => c == d
  | .atomic c _, .atomic d _ => c == d
  | _, _ => false

/-- The word that a request of port P is for, while it waits and can be performed. -/
def State.pWord (s : State) : PAccess → Option Nat
  | .load c =>
    match (s.core c).load with
    | some x =>
      if x.reply.isSome || s.forwarded c x then none
      else match target c x.addr with
        | .mem wa => some wa
        | _ => none
    | none => none
  | .store c =>
    match (s.core c).stores with
    | x :: _ => match target c x.addr with
      | .mem wa => some wa
      | _ => none
    | [] => none
  | .atomic c f =>
    if !s.canIssue c || !s.released c then none
    else match s.fetch c f with
      | (.word w, _) =>
        let a := s.reg c (raF w)
        if (isOp 0x18 w || isOp 0x19 w) && legal c w && (s.accessCheck c a .word .atomic).isNone then
          some (a.toNat / 4)
        else none
      | _ => none

/-- Port P's access performed. -/
def State.pPerform (s : State) (wa : Nat) : PAccess → State
  | .load c =>
    match (s.core c).load with
    | some x =>
      let (r, s1) := s.loadWord c wa x.addr
      s1.modCore c (fun y => { y with load := some { x with reply := some r } })
    | none => s
  | .store c =>
    match (s.core c).stores with
    | x :: _ =>
      let (e, s1) := s.storeWord wa x
      s1.storeDone c x e
    | [] => s
  | .atomic c f =>
    runInstr c f (fun w => isOp 0x18 w || isOp 0x19 w)
      (fun c w s => if isOp 0x18 w then atomicBody aluAdd c w s else atomicBody aluSwap c w s) s

/-- The requests of two sources, the first source first, in turns; `n` bounds their number (R101). -/
def inTurns : Nat → List PAccess → List PAccess → List PAccess
  | 0, _, _ => []
  | _ + 1, [], b => b
  | n + 1, x :: a, b => x :: inTurns n b a

/-- Request `p` is for a word of tile `t`'s bank, and port P does not hold it yet. -/
def State.arrives (s : State) (t : Nat) (p : PAccess) : Bool :=
  (match s.pWord p with
    | some wa => memOf wa == .bank t
    | none => false) && !(s.tile t).portP.any (accSame p)

/-- Port P accepts the requests that have arrived, in turns between the tile's own Cobbler and the tile bus
when both have some (R101). -/
def State.accept (t : Nat) (l : List PAccess) (s : State) : State :=
  let new := l.foldl (fun (q : List PAccess) p => if s.arrives t p && !q.any (accSame p) then q ++ [p] else q) []
  let own := new.filter (fun p => accCore p == t)
  let bus := new.filter (fun p => accCore p != t)
  let q := if (s.tile t).portOwn then inTurns (new.length + 1) bus own else inTurns (new.length + 1) own bus
  match q.getLast? with
  | some p => s.modTile t (fun x => { x with portP := x.portP ++ q, portOwn := accCore p == t })
  | none => s

/-! ### Arbitration windows (R105, R108, R109) -/

/-- A plain read of port P goes by the value at the start of the window, whatever port F does (R108). -/
def plainLoad : Option PAccess → Bool
  | some (.load _) => true
  | _ => false

/-- Port P's part in a window, if it has one. -/
def State.pPart (s : State) (wa : Nat) : Option PAccess → State
  | some p => s.pPerform wa p
  | none => s

/-- Port F's oldest request performed, with port P's access `p` to the same word when there is one: a
plain read of P sees the start value, and write-class operations apply F first and P second (R108). A
stored byte that does not hold its value at the end makes the request superseded (R109). -/
def State.fWindow (s : State) (t wa : Nat) (q : FReq) (p : Option PAccess) : State :=
  let s0 := if plainLoad p then s.pPart wa p else s
  let (r, stored, s1) := s0.fPerform t q
  let s2 := if plainLoad p then s1 else s1.pPart wa p
  let lost := match stored with
    | some (en, d) => mergeBytes (s2.wordAt wa) d en != s2.wordAt wa
    | none => false
  s2.countAccess.modTile t (fun x => { x with
    fReqs := x.fReqs.drop 1
    fResps := x.fResps ++ [{ r with superseded := lost }]
    collCnt := if lost then sat 0xFFFF (x.collCnt + 1) else x.collCnt })

/-- Word `wa` lies in sub-bank `sub` of tile `t` (R99). -/
def inSub (t sub wa : Nat) : Bool := memOf wa == .bank t && wa % 8 == sub

/-- Port P's oldest request for sub-bank `sub`, with its word (R101). -/
def State.pHere (s : State) (t sub : Nat) : Option (PAccess × Nat) :=
  (s.tile t).portP.findSome? (fun p => match s.pWord p with
    | some wa => if inSub t sub wa then some (p, wa) else none
    | none => none)

/-- Port F's oldest request, when it is for sub-bank `sub` (R103). -/
def State.fHere (s : State) (t sub : Nat) : Option FReq :=
  (s.tile t).fReqs.head?.filter (fun q => inSub t sub (fWord t q))

/-- Port P has passed request `p` to sub-bank `sub`, and passes it none in the cycle that follows (R101). -/
def Tile.issued (sub : Nat) (p : PAccess) (x : Tile) : Tile :=
  { x with portP := x.portP.erase p, portRest := x.portRest ||| BitVec.ofNat 8 (2 ^ sub) }

/-- Request `p` of port P has had its access in sub-bank `sub`. -/
def State.passed (t sub : Nat) (p : PAccess) (s : State) : State := (s.modTile t (Tile.issued sub p)).countAccess

/-- A cycle of sub-bank `sub` in which port P passed it nothing. -/
def Tile.rested (sub : Nat) (x : Tile) : Tile :=
  { x with portRest := x.portRest &&& ~~~(BitVec.ofNat 8 (2 ^ sub)) }

/-- A request whose access is no longer wanted leaves port P. -/
def State.dropStale (t : Nat) (s : State) : State :=
  s.modTile t (fun x => { x with portP := x.portP.filter (fun p => (s.pWord p).isSome) })

/-- One cycle of sub-bank `sub` of tile `t`: everything that waits for it is in the window. Accesses to one
word are served together; among different words port P wins, and port F waits. After a cycle with an access
of port P, port F goes first, if it waits (R101, R105). -/
def State.bankCycle (t sub : Nat) (s0 : State) : State :=
  let s := s0.dropStale t
  match s.pHere t sub, s.fHere t sub with
  | some (p, wa), some q =>
    if (s.tile t).portRest.getLsbD sub then (s.modTile t (Tile.rested sub)).fWindow t (fWord t q) q none
    else if fWord t q = wa then (s.fWindow t wa q (some p)).passed t sub p
    else (s.pPerform wa p).passed t sub p
  | some (p, wa), none => (s.pPerform wa p).passed t sub p
  | none, some q => (s.modTile t (Tile.rested sub)).fWindow t (fWord t q) q none
  | none, none => s.modTile t (Tile.rested sub)

/-- BANK_WINDOW: the requests that have arrived at port P are accepted, and sub-bank `sub` serves one window
(R101, R105). -/
def State.bankWindow (s : State) (t sub : Nat) (arrivals : List PAccess) : State :=
  (s.accept t arrivals).bankCycle t sub

/-- Cycles of a sub-bank until neither port P nor port F has a request for it, `n` at most. -/
def State.drainSub (t sub : Nat) : Nat → State → State
  | 0, s => s
  | n + 1, s =>
    if (s.pHere t sub).isSome || (s.fHere t sub).isSome then (s.bankCycle t sub).drainSub t sub n else s

/-- The mover has the sub-bank cycle of word `wa`: what waits there at ports P and F is served first (R104,
R105). -/
def State.idleAt (wa : Nat) (s : State) : State :=
  match memOf wa with
  | .bank t => s.drainSub t (wa % 8) ((s.tile t).portP.length + (s.tile t).fReqs.length)
  | _ => s

/-- Cycles of a sub-bank until port P has passed it request `p`, `n` at most. -/
def State.serveUntil (t sub : Nat) (p : PAccess) : Nat → State → State
  | 0, s => s
  | n + 1, s => if (s.tile t).portP.contains p then (s.bankCycle t sub).serveUntil t sub p n else s

/-- Request `p`, for word `wa` of a bank, goes through port P and its sub-bank. -/
def State.throughPort (t wa : Nat) (p : PAccess) (s : State) : State :=
  let s1 := s.accept t [p]
  s1.serveUntil t (wa % 8) p (2 * (s1.tile t).portP.length)

/-- An access that waits for ports P and F at word `wa`, and is counted (R101, R345). -/
def State.turnAt (wa : Nat) (s : State) : State :=
  match memOf wa with
  | .bank _ => (s.idleAt wa).countAccess
  | _ => s

/-- The mover's read of word `wa`: nothing comes from a fenced bank (R104, R113–R115, R117). -/
def State.moverRead (wa : Nat) (s : State) : Reply × State :=
  match memOf wa with
  | .bank t => if (s.tile t).bankFenced then (.err .access, s) else (s.turnAt wa).memRead wa
  | _ => s.memRead wa

/-- The mover's write of a whole word; a fenced bank takes nothing (R104, R113, R117). -/
def State.moverWrite (wa : Nat) (d : Word) (s : State) : State :=
  match memOf wa with
  | .bank t => if (s.tile t).bankFenced then s else ((s.turnAt wa).memWrite wa 15 d).2
  | _ => (s.memWrite wa 15 d).2

/-- AADD or ASWP: an operation that can be performed goes through port P of its bank; one that traps does not
reach it (R101, R110, R111). -/
def State.atomicInstr (s : State) (op : Nat) (body : Nat → Word → State → State) (c : CoreId) (f : Option Word) :
    State :=
  match s.pWord (.atomic c f), s.fetch c f with
  | some wa, (.word w, _) =>
    if isOp op w then s.throughPort (wa / 0x8000) wa (.atomic c f) else runInstr c f (isOp op) body s
  | _, _ => runInstr c f (isOp op) body s

/-! ### Patrol and clearing (R117, R118, R124) -/

/-- The mover may patrol the bank (R118). -/
def State.patrols (s : State) (t : Nat) : Bool :=
  let x := s.tile t
  x.scrubEn && x.power == .on && !x.fenced && !x.clearing

/-- PATROL_PASS_START: a pass begins; scrub_per is taken now (R118). -/
def State.startPatrol (s : State) (t : Nat) : State :=
  if s.patrols t && !(s.tile t).patrol.active then
    s.modTile t (fun x => { x with patrol := { active := true, next := 0, per := x.scrubPer.toNat } })
  else s

/-- PATROL_READ: the next word is read in an idle cycle, under R114 and R115; a fenced bank answers with an
error and nothing is read (R104, R117, R118). -/
def State.patrolRead (s : State) (t : Nat) (u : Option Bool) : State :=
  let x := s.tile t
  if !s.patrols t || !x.patrol.active then s
  else
    let wa := bankWord t + x.patrol.next
    let s1 := if x.bankFenced then s else ((s.upset wa u).moverRead wa).2
    s1.modTile t (fun y => { y with patrol :=
      { y.patrol with active := decide (y.patrol.next + 1 < 0x8000), next := y.patrol.next + 1 } })

/-- The clearing of R124 begins: the tile serves no access until it ends. -/
def State.startClear (t : Nat) (keepBank : Bool) (s : State) : State :=
  (s.clearTileMem t keepBank).modTile t (fun x => { x with
    clearing := true
    patrol := if keepBank then x.patrol else { active := false, next := 0, per := 0 } })

/-! ### The meanings -/

def execAadd (c : CoreId) (f : Option Word) (s : State) : Result :=
  .next (s.atomicInstr 0x18 (atomicBody aluAdd) c f)
def execAswp (c : CoreId) (f : Option Word) (s : State) : Result :=
  .next (s.atomicInstr 0x19 (atomicBody aluSwap) c f)
def execPortFRequest (t : TileId) (s : State) : Result := .next (s.fRequest t)
def execBankWindow (t : TileId) (sub : Fin 8) (own bus : List PAccess) (s : State) : Result :=
  .next (s.bankWindow t sub (own ++ bus))
def execPortFResponse (t : TileId) (s : State) : Result := .next (s.fRespond t)
def execPatrolPassStart (t : TileId) (s : State) : Result := .next (s.startPatrol t)
def execPatrolRead (t : TileId) (upset : Option Bool) (s : State) : Result := .next (s.patrolRead t upset)

/-- The clearing of a tile's bank and local memory ends (R124). -/
def execMemoryClearComplete (t : TileId) (s : State) : Result :=
  .next (s.modTile t (fun x => { x with clearing := false }))

/-- TILE_BANK.cnt_clr (R120). -/
def execBankCntClr (t : TileId) (s : State) : Result := .next (s.modTile t (fun x => { x with collCnt := 0 }))

/-- TILE_ECC.cnt_clr (R121). -/
def execEccCntClr (t : TileId) (s : State) : Result :=
  .next (s.modTile t (fun x => { x with bankCe := 0, localCe := 0 }))

/-- A double-bit detection becomes older than 1 s (R121). -/
def execBankUe1sExpiry (t : TileId) (s : State) : Result :=
  .next (s.modTile t (fun x => { x with bankUe1s := x.bankUe1s - 1 }))

end Sys2Proof.Machine
end

