-- ==== Sys2Proof/Machine/Crypto.lean ====
section
/-! DEFINITION. The two algorithms that R273 names: SHA-512 and the verification of an Ed25519 signature. The
manual names them and does not define them; these are the published standards (FIPS 180-4, RFC 8032),
PRESUMED (log entry 9). -/

namespace Sys2Proof.Machine.Crypto

/-! ### SHA-512 -/

/-- The round constants: 64 bits of the fractional parts of the cube roots of the first 80 primes. -/
def shaK : List (BitVec 64) :=
  [0x428a2f98d728ae22, 0x7137449123ef65cd, 0xb5c0fbcfec4d3b2f, 0xe9b5dba58189dbbc,
   0x3956c25bf348b538, 0x59f111f1b605d019, 0x923f82a4af194f9b, 0xab1c5ed5da6d8118,
   0xd807aa98a3030242, 0x12835b0145706fbe, 0x243185be4ee4b28c, 0x550c7dc3d5ffb4e2,
   0x72be5d74f27b896f, 0x80deb1fe3b1696b1, 0x9bdc06a725c71235, 0xc19bf174cf692694,
   0xe49b69c19ef14ad2, 0xefbe4786384f25e3, 0x0fc19dc68b8cd5b5, 0x240ca1cc77ac9c65] ++
  [0x2de92c6f592b0275, 0x4a7484aa6ea6e483, 0x5cb0a9dcbd41fbd4, 0x76f988da831153b5,
   0x983e5152ee66dfab, 0xa831c66d2db43210, 0xb00327c898fb213f, 0xbf597fc7beef0ee4,
   0xc6e00bf33da88fc2, 0xd5a79147930aa725, 0x06ca6351e003826f, 0x142929670a0e6e70,
   0x27b70a8546d22ffc, 0x2e1b21385c26c926, 0x4d2c6dfc5ac42aed, 0x53380d139d95b3df,
   0x650a73548baf63de, 0x766a0abb3c77b2a8, 0x81c2c92e47edaee6, 0x92722c851482353b] ++
  [0xa2bfe8a14cf10364, 0xa81a664bbc423001, 0xc24b8b70d0f89791, 0xc76c51a30654be30,
   0xd192e819d6ef5218, 0xd69906245565a910, 0xf40e35855771202a, 0x106aa07032bbd1b8,
   0x19a4c116b8d2d0c8, 0x1e376c085141ab53, 0x2748774cdf8eeb99, 0x34b0bcb5e19b48a8,
   0x391c0cb3c5c95a63, 0x4ed8aa4ae3418acb, 0x5b9cca4f7763e373, 0x682e6ff3d6b2b8a3,
   0x748f82ee5defb2fc, 0x78a5636f43172f60, 0x84c87814a1f0ab72, 0x8cc702081a6439ec] ++
  [0x90befffa23631e28, 0xa4506cebde82bde9, 0xbef9a3f7b2c67915, 0xc67178f2e372532b,
   0xca273eceea26619c, 0xd186b8c721c0c207, 0xeada7dd6cde0eb1e, 0xf57d4f7fee6ed178,
   0x06f067aa72176fba, 0x0a637dc5a2c898a6, 0x113f9804bef90dae, 0x1b710b35131c471b,
   0x28db77f523047d84, 0x32caab7b40c72493, 0x3c9ebe0a15c9bebc, 0x431d67c49c100d4c,
   0x4cc5d4becb3e42b6, 0x597f299cfc657e2a, 0x5fcb6fab3ad6faec, 0x6c44198c4a475817]

/-- The initial hash value: 64 bits of the fractional parts of the square roots of the first 8 primes. -/
def shaInit : List (BitVec 64) :=
  [0x6a09e667f3bcc908, 0xbb67ae8584caa73b, 0x3c6ef372fe94f82b, 0xa54ff53a5f1d36f1,
   0x510e527fade682d1, 0x9b05688c2b3e6c1f, 0x1f83d9abfb41bd6b, 0x5be0cd19137e2179]

/-- A number from bytes, the most significant first. -/
def fromBe (l : List Byte) : Nat := l.foldl (fun n b => n * 256 + b.toNat) 0

/-- A number from bytes, the least significant first. -/
def fromLe (l : List Byte) : Nat := fromBe l.reverse

/-- The `n` bytes of a number, the most significant first. -/
def toBe (n v : Nat) : List Byte := (List.range n).map (fun i => BitVec.ofNat 8 (v / 256 ^ (n - 1 - i)))

/-- The message with its padding and its length in bits: a multiple of 128 bytes. -/
def shaPad (m : List Byte) : List Byte :=
  m ++ [0x80] ++ List.replicate ((239 - m.length % 128) % 128) 0 ++ toBe 16 (8 * m.length)

/-- The sixteen words of a block, the last first. -/
def shaBlock (b : List Byte) : List (BitVec 64) :=
  (List.range 16).foldl (fun l i => BitVec.ofNat 64 (fromBe ((b.drop (8 * i)).take 8)) :: l) []

/-- One more word of the message schedule, on a list with the newest first. -/
def shaNext (l : List (BitVec 64)) : List (BitVec 64) :=
  let a := l.getD 1 0
  let b := l.getD 14 0
  ((a.rotateRight 19 ^^^ a.rotateRight 61 ^^^ (a >>> 6)) + l.getD 6 0 +
    (b.rotateRight 1 ^^^ b.rotateRight 8 ^^^ (b >>> 7)) + l.getD 15 0) :: l

/-- One round on the eight working variables a to h. -/
def shaRound (v : List (BitVec 64)) (k w : BitVec 64) : List (BitVec 64) :=
  let a := v.getD 0 0
  let b := v.getD 1 0
  let c := v.getD 2 0
  let e := v.getD 4 0
  let t := v.getD 7 0 + (e.rotateRight 14 ^^^ e.rotateRight 18 ^^^ e.rotateRight 41) +
    ((e &&& v.getD 5 0) ^^^ (~~~e &&& v.getD 6 0)) + k + w
  let u := (a.rotateRight 28 ^^^ a.rotateRight 34 ^^^ a.rotateRight 39) + ((a &&& b) ^^^ (a &&& c) ^^^ (b &&& c))
  [t + u, a, b, c, v.getD 3 0 + t, e, v.getD 5 0, v.getD 6 0]

/-- One block compressed into the hash value. -/
def shaCompress (h : List (BitVec 64)) (b : List Byte) : List (BitVec 64) :=
  let ws := ((List.range 64).foldl (fun l _ => shaNext l) (shaBlock b)).reverse
  let v := (shaK.zip ws).foldl (fun v p => shaRound v p.1 p.2) h
  (h.zip v).map (fun p => p.1 + p.2)

/-- The SHA-512 digest, 64 bytes. -/
def sha512 (m : List Byte) : List Byte :=
  let p := shaPad m
  let h := (List.range (p.length / 128)).foldl (fun h i => shaCompress h ((p.drop (128 * i)).take 128)) shaInit
  h.flatMap (fun x => toBe 8 x.toNat)

/-! ### Ed25519 -/

/-- The field's prime and the order of the base point. -/
def prime : Nat := 2 ^ 255 - 19
def order : Nat := 2 ^ 252 + 27742317777372353535851937790883648493

/-- `b` to the power of `e < 2^n`, modulo the prime. -/
def powMod (b e : Nat) : Nat → Nat
  | 0 => 1
  | n + 1 =>
    let r := powMod b (e / 2) n
    let q := r * r % prime
    if e % 2 = 1 then q * b % prime else q

def inv (x : Nat) : Nat := powMod x (prime - 2) 255

/-- The curve's constant −121665/121666. -/
def edD : Nat := (prime - 121665) * inv 121666 % prime

/-- A point of the curve: X, Y, Z, T with x = X/Z, y = Y/Z and xy = T/Z. -/
structure Point where
  x : Nat
  y : Nat
  z : Nat
  t : Nat
deriving DecidableEq, Repr

def neutral : Point := { x := 0, y := 1, z := 1, t := 0 }

/-- The sum of two points. -/
def add (p q : Point) : Point :=
  let a := (p.y + prime - p.x) * (q.y + prime - q.x) % prime
  let b := (p.y + p.x) * (q.y + q.x) % prime
  let c := 2 * p.t * q.t * edD % prime
  let d := 2 * p.z * q.z % prime
  let e := b + prime - a
  let f := d + prime - c
  let g := d + c
  let h := b + a
  { x := e * f % prime, y := g * h % prime, z := f * g % prime, t := e * h % prime }

/-- `k < 2^n` times a point. -/
def mul (p : Point) (k : Nat) : Nat → Point
  | 0 => neutral
  | n + 1 =>
    let r := mul p (k / 2) n
    let q := add r r
    if k % 2 = 1 then add q p else q

/-- Two points are one. -/
def same (p q : Point) : Bool :=
  p.x * q.z % prime == q.x * p.z % prime && p.y * q.z % prime == q.y * p.z % prime

/-- The point that 32 bytes encode, if they encode one. -/
def decode (b : List Byte) : Option Point :=
  let v := fromLe b
  let y := v % 2 ^ 255
  let s := v / 2 ^ 255
  let x2 := (y * y + prime - 1) * inv (edD * y * y % prime + 1) % prime
  let r := powMod x2 ((prime + 3) / 8) 255
  let r1 := if r * r % prime = x2 then r else r * powMod 2 ((prime - 1) / 4) 255 % prime
  if prime ≤ y ∨ r1 * r1 % prime ≠ x2 ∨ (r1 = 0 ∧ s = 1) then none
  else
    let x := if r1 % 2 = s then r1 else prime - r1
    some { x := x, y := y, z := 1, t := x * y % prime }

/-- The base point: y = 4/5, x even. -/
def base : Point :=
  let y := 4 * inv 5 % prime
  let x := 0x216936d3cd6e53fec0a4e231fdd6dc5c692cc7609525a7b2c9562d608f25d51a
  { x := x, y := y, z := 1, t := x * y % prime }

/-- The signature `sig` of message `msg` verifies under public key `key`: 8·S·B = 8·R + 8·k·A. -/
def verifies (key sig msg : List Byte) : Bool :=
  let s := fromLe (sig.drop 32)
  match decode key, decode (sig.take 32) with
  | some a, some r =>
    let k := fromLe (sha512 (sig.take 32 ++ key ++ msg)) % order
    key.length == 32 && sig.length == 64 && decide (s < order) &&
      same (mul (mul base s 253) 8 4) (mul (add r (mul a k 253)) 8 4)
  | _, _ => false

/-- The first 16 bytes of the SHA-512 digest of a key, the first lowest (R273, R405). -/
def keyDigest (key : List Byte) : BitVec 128 := BitVec.ofNat 128 (fromLe ((sha512 key).take 16))

end Sys2Proof.Machine.Crypto
end

