-- ==== Sys2Proof/Machine/Awl.lean ====
section
/-! DEFINITION. Awl's tests as such: their ids, steps and signatures (R372–R375), where a run is kept,
and the events that cut one short (R373). -/

namespace Sys2Proof.Machine

def testStartup : Nat := 0x01
def testRecheck : Nat := 0x02
def testLogic : Nat := 0x10
def testBank : Nat := 0x11
def testLocal : Nat := 0x12
def testQsram : Nat := 0x13

/-- The number of steps of a test (R374). -/
def testSteps (test : Nat) : Nat :=
  if test = testStartup then 29 else if test = testRecheck then 17 else if test = testLogic then 1024
  else if test = testBank then 512 else if test = testLocal then 64 else 1024

/-- The test and the target are in the table of R374; targets as BIST_CTRL gives them. -/
def testKnown (test target : Nat) : Bool :=
  ((test == testStartup || test == testRecheck) && target == 255) ||
  ((test == testLogic || test == testBank || test == testLocal) && decide (target < 128)) ||
  (test == testQsram && target == 128)

/-- The verdict of a passing step (R374). -/
def passVerdict (test : Nat) : Nat :=
  if test = testStartup ∨ test = testRecheck then 1 else if test = testLogic then 0xFFFF else 0x3F

/-- `n` bytes of a number, the lowest first. -/
def leBytes : Nat → Nat → List Byte
  | 0, _ => []
  | n + 1, v => BitVec.ofNat 8 v :: leBytes n (v / 256)

/-- A run before its first step. -/
def AwlRun.start (test target : Nat) : AwlRun where
  test := test
  target := target
  planned := testSteps test
  steps := 0
  folded := 0
  ahead := []
  next := 0
  again := []
  crc := 0xFFFFFFFF
  cut := false

/-- The step that is to run: the next one that has not been tried, then the aborted ones (R372, R378). -/
def AwlRun.at (r : AwlRun) : Nat := if r.next < r.planned then r.next else r.again.headD r.next

/-- The present step is no longer the one to run. -/
def AwlRun.pass (r : AwlRun) : AwlRun :=
  if r.next < r.planned then { r with next := r.next + 1 } else { r with again := r.again.drop 1 }

/-- The present step is aborted, and runs again after the others (R378). -/
def AwlRun.abort (r : AwlRun) : AwlRun := { r.pass with again := r.pass.again ++ [r.at] }

/-- CRC-32C with the check word of step `id` (R372). -/
def checkCrc (crc : Word) (id verdict : Nat) : Word := word (crcRun crc.toNat (leBytes 4 (id * 2 ^ 16 + verdict)))

/-- The verdicts that follow the steps folded so far, in step order, go into the signature (R372). -/
def AwlRun.flush : SMap Nat → AwlRun → AwlRun
  | [], r => { r with ahead := [] }
  | (i, v) :: m, r =>
    if i = r.folded then AwlRun.flush m { r with crc := checkCrc r.crc i v, folded := i + 1 }
    else { r with ahead := (i, v) :: m }

/-- The present step completes: its check word goes into the signature, in step order (R372). -/
def AwlRun.fold (verdict : Nat) (r : AwlRun) : AwlRun :=
  AwlRun.flush (SMap.insert r.ahead r.at verdict) { r.pass with steps := r.steps + 1 }

/-- The signature of the steps completed (R372). -/
def AwlRun.signature (r : AwlRun) : Word :=
  word (crcRun (r.ahead.foldl (fun c p => checkCrc c p.1 p.2) r.crc).toNat (leBytes 4 r.steps) ^^^ 0xFFFFFFFF)

/-- The signature of a test whose every step passes: what the boot ROM holds for its tests (R372, R374). -/
def passSignature (test : Nat) : Word :=
  ((List.range (testSteps test)).foldl (fun r _ => r.fold (passVerdict test)) (AwlRun.start test 0)).signature

/-- Every planned step has completed. -/
def AwlRun.complete (r : AwlRun) : Bool := r.steps == r.planned

/-- The result of a run against its reference, if it has one: 1 PASS, 2 FAIL, 3 INCOMPLETE (R373). -/
def AwlRun.result (r : AwlRun) (ref : Option Word) : Nat :=
  if !r.complete then 3 else if ref = some r.signature then 1 else 2

/-- The number under which a background pass is kept. -/
def bgKey : BgTest → Nat
  | .bank t => t
  | .localMem t => 128 + t
  | .qsram => 256
  | .analog => 257

/-- The run that a background pass makes. -/
def bgRun : BgTest → AwlRun
  | .bank t => AwlRun.start testBank t
  | .localMem t => AwlRun.start testLocal t
  | .qsram => AwlRun.start testQsram 128
  | .analog => AwlRun.start testRecheck 255

/-- A place where no run is kept. -/
def AwlRun.none (_n : Nat) : AwlRun := AwlRun.start 0 0

/-- A run on tile `t` is cut short: a tile test whose target is the tile. -/
def AwlRun.cutFor (t : Nat) (r : AwlRun) : AwlRun :=
  if r.target = t ∧ 0x10 ≤ r.test then { r with cut := true } else r

/-- The target tile is gated, fenced or enters LOADING (R373). -/
def Bist.cutTile (t : Nat) (b : Bist) : Bist :=
  { b with
    demand := b.demand.map (AwlRun.cutFor t)
    startup := b.startup.map (fun (p : Nat × AwlRun) => (p.1, p.2.cutFor t))
    background := b.background.map (fun (p : Nat × AwlRun) => (p.1, p.2.cutFor t)) }

/-- BIST_STAT and the others after a test on demand or at start-up (R373, R382). -/
def Bist.ended (r : AwlRun) (ref : Option Word) (b : Bist) : Bist :=
  { b with
    state := 2, complete := r.complete, isMatch := ref == some r.signature, result := r.result ref
    done := true, sig := r.signature, ref := ref.getD 0, steps := r.steps, planned := r.planned }

/-- The reference of a test: the boot ROM's, or the SIGREF entry of its target, else the one that serves
every target (R374). -/
def State.refOf (s : State) (test target : Nat) : Option Word :=
  if test = testStartup ∨ test = testRecheck then some (passSignature test)
  else match s.cfg.sigrefs.find? (fun e => e.test = test ∧ e.target = target) with
    | some e => some e.sig
    | none => (s.cfg.sigrefs.find? (fun e => e.test = test ∧ e.target = 0xFFFF)).map (·.sig)

/-- The reference of the test on demand (R374, R382). -/
def State.demandRef (s : State) (r : AwlRun) : Option Word :=
  if s.bist.refUser then some s.bist.ref
  else if (s.refOf r.test r.target).isSome then some s.bist.ref else none

/-- The BIST record of a run that did not pass (R355, R356). -/
def bistReport (r : AwlRun) (result action : Nat) : Report :=
  let tile := decide (r.target < 128)
  { Report.of 0x0C with
    action := action, tile := if tile then r.target else 0, dev := !tile
    detail := word (r.test + r.target * 2 ^ 8 + result * 2 ^ 16) }

/-- A full load cuts every test short: a test at start-up ends, the others with their BIST_TEST_END (R373). -/
def State.cutTests (s : State) : Bist :=
  let b := s.bist.startup.foldl (fun (b : Bist) p => b.ended p.2 (s.refOf p.2.test p.2.target)) s.bist
  { b with
    demand := b.demand.map (fun r => { r with cut := true })
    startup := []
    background := b.background.map (fun (p : Nat × AwlRun) => (p.1, { p.2 with cut := true })) }

end Sys2Proof.Machine
end

