-- ==== Sys2Proof/Machine/Frames.lean ====
section
/-! DEFINITION. What the loader checks in a frame before it writes it (R280): the address (R275) and
the content of each kind (R50, R65, R67, R77, R184, R196, R277, R278), as error codes of R281. -/

namespace Sys2Proof.Machine

/-- The error codes of R281 that a load can end with. -/
def errMagic : Nat := 2
def errVersion : Nat := 3
def errDevice : Nat := 4
def errFormat : Nat := 5
def errCrc : Nat := 6
def errImageCrc : Nat := 7
def errFrameAddr : Nat := 8
def errCellMap : Nat := 9
def errRouteMap : Nat := 10
def errSpineMulti : Nat := 11
def errEyeletMap : Nat := 12
def errPaceJoin : Nat := 13
def errSeamMap : Nat := 14
def errPinMap : Nat := 15
def errSeqOrder : Nat := 16
def errOutOfRegion : Nat := 17
def errAuth : Nat := 18
def errWdog : Nat := 19
def errPack : Nat := 21
def errDict : Nat := 22
def errCount : Nat := 23
def errRegionMap : Nat := 24
def errCtlMap : Nat := 25
def errAborted : Nat := 26
def errLock : Nat := 27
def errBist : Nat := 28

/-! ### Addresses (R275) -/

def faTile (a : Nat) : Nat := nfld a 20 7
def faKind (a : Nat) : Nat := nfld a 17 3
def faIndex (a : Nat) : Nat := nfld a 0 17

/-- A frame address that names a frame. -/
def addrOk (a : Nat) : Bool :=
  let k := faKind a
  let i := faIndex a
  decide (a < 2 ^ 27) &&
  ((k == 0 && decide (i < 1024)) || (k == 1 && decide (i < 8)) || (k == 2 && decide (i < 512)) ||
   (k == 3 && decide (i < 64)) || (k == 4 && decide (i < 4)) ||
   (k == 6 && decide (i < 40) && faTile a == 0))

/-! ### CLUSTER frames (R37–R39, R50, R55–R60, R67, R68) -/

/-- The word of cell `k` in a cluster frame. -/
def cellOf (f : Nat) (k : Nat) : Nat := nfld f (128 * k) 128

/-- Cell `k` of cluster `c` breaks a condition of R50. -/
def cellBad (f c k : Nat) : Bool :=
  let w := cellOf f k
  let m := cwMode w
  let role := cwRole w
  let memory := (List.range 16).any (fun i => cwMode (cellOf f i) == 4)
  nfld w 20 4 != 0 || nfld w 117 3 != 0 || nfld w 120 8 != 0 || decide (4 < m) ||
  (List.range 4).any (fun i => decide (59 ≤ cwSel w i) && decide (cwSel w i ≤ 62) && !edgeCluster c) ||
  (cwCarry w && (cwSel w 3 != 63 || m == 4)) ||
  decide (5 < role) || cwOrder w == 3 ||
  (cwOrder w != 0 && !(k == 8 && m == 4)) ||
  ((role == 0) == (m == 4)) ||
  (m == 4 && (role != (if k < 8 then 1 else k - 6) || decide (12 ≤ k))) ||
  (memory && decide (8 ≤ k) && decide (k ≤ 11) && (m != 4 || cwLut w != 0 || cwCarry w)) ||
  (memory && k == 9 && (List.range 3).any (fun i => cwSel w (i + 1) != 63))

/-- A CLUSTER frame is rejected with CELL_MAP (R50). -/
def cellMapBad (f c : Nat) : Bool := (List.range 16).any (cellBad f c)

/-- The select bits of outgoing lane `l`: its four cells and its sixteen candidates (R56, R57). -/
def selectBits (f l : Nat) : List Bool :=
  (List.range 4).map (fun m => cwRoute (cellOf f (l % 4 + 4 * m)) (l / 4)) ++
  (List.range 16).map (fun b => cwSbox (cellOf f (l % 4 + 4 * (b / 4))) (4 * (l / 4) + b % 4))

/-- The pip bit of outgoing lane `l` (R60, R68). -/
def pipBit (f l : Nat) : Bool :=
  if l < 8 then false else if l < 24 then cwPip (cellOf f (l % 4)) (l / 4) else cwRunPip (cellOf f (l - 24))

/-- A consumer in the cluster selects incoming lane `i` (R59). -/
def laneSelected (f i : Nat) : Bool :=
  (List.range 16).any (fun k => (List.range 4).any (fun j => cwSel (cellOf f k) j == 16 + i)) ||
  (List.range 32).any (fun l => (List.range 16).any (fun b =>
    (l + 2 * b) % 32 == i && cwSbox (cellOf f (l % 4 + 4 * (b / 4))) (4 * (l / 4) + b % 4)))

/-- A CLUSTER frame is rejected with ROUTE_MAP (R67). -/
def routeMapBad (f t c : Nat) : Bool :=
  (List.range 32).any (fun l =>
    decide (1 < (selectBits f l).count true) ||
    ((laneFar t c l).isNone && ((selectBits f l).any id || pipBit f l)) ||
    (let on := (if l % 2 = 0 then cwEndLo else cwEndHi) (cellOf f (l / 2))
     on != laneSelected f l || (on && (laneNear t c l).isNone))) ||
  (List.range 16).any (fun k =>
    let w := cellOf f k
    (List.range 8).any (fun j => cwPip w j && !(decide (k < 4) && decide (2 ≤ j) && decide (j ≤ 5))) ||
    (decide (8 ≤ k) && cwRunPip w) || (cwPortOut w && !(decide (12 ≤ k) && edgeCluster c)) ||
    nfld w 100 12 != 0)

/-! ### SPINE frames (R65) -/

/-- More than one tap of a spine is enabled. -/
def spineBad (f : Nat) : Bool :=
  (List.range 16).any (fun e =>
    decide (1 < ((List.range 32).map (fun p => f.testBit (128 * e + 4 * p + 3))).count true))

/-! ### TILECTL frames (R184, R277, R278) -/

/-- Word `w` of a frame. -/
def wordOf (f w : Nat) : Nat := nfld f (32 * w) 32

/-- The bits of `v` outside `mask`. -/
def outside (v mask : Nat) : Bool := v != v &&& mask

/-- All words from `n` on are zero. -/
def restZero (f n : Nat) : Bool := f >>> (32 * n) == 0

/-- The eyelets of a port by its width field (R181). -/
def portSize (w : Nat) : Nat := if w = 1 then 1 else if w = 2 then 3 else if w = 3 then 5 else 0

/-- Eyelet bindings that R184 rejects. -/
def eyeletBad (f : Nat) : Bool :=
  let b := fun e => wordOf f (2 + e)
  let width := fun e => nfld (b e) 15 2
  (List.range 16).any (fun e =>
    b e >>> 17 != 0 || (width e == 0 && nfld (b e) 0 15 != 0) ||
    decide (16 < e + portSize (width e)) ||
    (List.range 5).any (fun d => decide (0 < d) && decide (d < portSize (width e)) && width (e + d) != 0))

/-- An entry of TILECTL frame 1 that R278 rejects. -/
def sealBad (f t : Nat) : Bool :=
  (List.range 128).any (fun e =>
    let v := nfld f (16 * e) 16
    let side := e / 32
    let edge := (side == 0 && tileY t == 0) || (side == 1 && tileX t == 15) ||
      (side == 2 && tileY t == 7) || (side == 3 && tileX t == 0)
    decide (4 < nfld v 0 3) || decide (4 < nfld v 3 3) || decide (4 < nfld v 6 3) || v >>> 9 != 0 ||
    (edge && v != 0))

/-- Watched lanes that hold a reserved field or source. -/
def watchBad (f : Nat) : Bool :=
  outside (wordOf f 0) 0x3FFFF ||
  (List.range 63).any (fun i => outside (wordOf f (i + 1)) 0x8000FFFF || decide (47 < nfld (wordOf f (i + 1)) 10 6))

/-- The error of a TILECTL frame. -/
def tilectlErr (f t i : Nat) : Option Nat :=
  if i = 0 then
    if eyeletBad f then some errEyeletMap
    else if outside (wordOf f 0) 0xFFFF0070 || outside (wordOf f 1) 1 || !restZero f 18 then some errCtlMap
    else none
  else if i = 1 then (if sealBad f t then some errCtlMap else none)
  else if i = 2 then (if watchBad f then some errCtlMap else none)
  else if outside (wordOf f 0) 0x70F || !restZero f 1 then some errCtlMap else none

/-! ### DEVICE frames (R77, R196, R278) -/

/-- Two enabled pacers of the frame name one join (R77). -/
def paceJoinBad (f : Nat) : Bool :=
  let c := fun i => wordOf f (4 * i)
  (List.range 16).any (fun i => (List.range 16).any (fun j => decide (i < j) &&
    (c i).testBit 0 && (c j).testBit 0 && nfld (c i) 8 15 == nfld (c j) 8 15))

/-- The clock settings of DEVICE frame 30 that R196 or R278 rejects. -/
def clockBad (f : Nat) : Bool :=
  let p := pllOf (word (wordOf f 0)) (word (wordOf f 1))
  outside (wordOf f 0) 0x1FFF || outside (wordOf f 1) 0xFFFFFF || nfld (wordOf f 0) 8 2 == 3 ||
  !p.inRange ||
  (List.range 8).any (fun n => outside (wordOf f (2 + n)) 0x1FFF ||
    ((wordOf f (2 + n)).testBit 12 && p.above (nfld (wordOf f (2 + n)) 0 12 + 1) 650)) ||
  (List.range 4).any (fun q => outside (wordOf f (10 + q)) 0x3F01) || !restZero f 14

/-- An OFF seam, whose SEAM_CFG R206 does not check, with the reserved qual_mode (R216, R278). -/
def offQual (w : Nat) : Bool := nfld w 0 2 == 0 && nfld w 20 2 == 3

/-- The error of a DEVICE frame. -/
def deviceErr (f i : Nat) : Option Nat :=
  let bad := fun (b : Bool) => if b then some errCtlMap else none
  if i < 18 then
    bad ((List.range 32).any (fun e => outside (wordOf f (2 * e)) 0x7FFFFFFF || outside (wordOf f (2 * e + 1)) 0x37FF))
  else if i < 26 then
    bad ((List.range 32).any (fun e => outside (wordOf f (2 * e + 1)) 0x0FFFFF0F || offQual (wordOf f (2 * e))))
  else if i < 30 then
    if paceJoinBad f then some errPaceJoin
    else bad ((List.range 16).any (fun e => outside (wordOf f (4 * e)) 0x017FFF3F ||
      outside (wordOf f (4 * e + 2)) 0xF || wordOf f (4 * e + 3) != 0))
  else if i = 30 then bad (clockBad f)
  else if 32 ≤ i ∧ i < 37 then
    bad ((List.range 128).any (fun m => nfld f (16 * m + 13) 2 == 3) || (i == 36 && f >>> 1024 != 0))
  else bad (f != 0)

/-- The content check of R280 for the frame at address `a`. -/
def contentErr (f : Frame) (a : Nat) : Option Nat :=
  let v := f.toNat
  let t := faTile a
  let i := faIndex a
  if faKind a = 0 then
    if cellMapBad v i then some errCellMap else if routeMapBad v t i then some errRouteMap else none
  else if faKind a = 1 then (if spineBad v then some errSpineMulti else none)
  else if faKind a = 4 then tilectlErr v t i
  else if faKind a = 6 then deviceErr v i
  else none

end Sys2Proof.Machine
end

