-- ==== Sys2Proof/Machine/Lace.lean ====
section
/-! DEFINITION. Lace (chapter 07): requests on the ring, the operations of a home node, waiters,
timeouts, eyelet ports, work stealing and adoption, and the queue instructions of the cores (R140–R143). -/

namespace Sys2Proof.Machine

/-! ### The ring (R168, R185, R186) -/

/-- The node at which a caller's packets enter the ring: its quadrant's, node 0 for Quince (R161). -/
def callerNode (k : Nat) : Nat :=
  if k = 128 then 0 else if k < 128 then k / 32 else (k - 256) / 16 / 32

/-- The home node of a queue (R168). -/
def homeNode (q : Nat) : Nat := q / 4096

/-- The place of a node in the ring 0–1–3–2. -/
def ringPos (m : Nat) : Nat := if m = 2 then 3 else if m = 3 then 2 else m

/-- `n` links from node `a` one way round, and the other way. -/
def ringUp (a n : Nat) : List Nat := (List.range n).map (fun i => (ringPos a + i) % 4)
def ringDown (a n : Nat) : List Nat := (List.range n).map (fun i => (ringPos a + 7 - i) % 4)

/-- The shortest path: between opposite nodes through the lower-numbered one (R185). -/
def ringShort (a b : Nat) : List Nat :=
  let d := (ringPos b + 4 - ringPos a) % 4
  if d = 0 then [] else if d = 1 then ringUp a 1 else if d = 3 then ringDown a 1
  else if a = 0 ∨ a = 2 then ringUp a 2 else ringDown a 2

/-- The other way round (R186). -/
def ringLong (a b : Nat) : List Nat :=
  let d := (ringPos b + 4 - ringPos a) % 4
  if d = 0 then [] else if d = 1 then ringDown a 3 else if d = 3 then ringUp a 3
  else if a = 0 ∨ a = 2 then ringDown a 2 else ringUp a 2

/-- The node at the other end of a link. -/
def linkEnd (m l : Nat) : Nat :=
  if l = 0 then (if m = 0 then 1 else 0) else if l = 1 then (if m = 1 then 3 else 1)
  else if l = 2 then (if m = 3 then 2 else 3) else (if m = 2 then 0 else 2)

/-- The path that traffic takes now, avoiding failed links when reroute_en is 1 (R186, R190). -/
def State.lacePath (s : State) (a b : Nat) : Option (List Nat) :=
  let clear := fun (p : List Nat) => p.all (fun l => !s.lace.linkFail.getLsbD l)
  if clear (ringShort a b) then some (ringShort a b)
  else if s.lace.reroute && clear (ringLong a b) then some (ringLong a b)
  else none

/-- Both links of a node have failed (R186, R191). -/
def State.isolated (s : State) (m : Nat) : Bool :=
  s.lace.linkFail.getLsbD (ringPos m) && s.lace.linkFail.getLsbD ((ringPos m + 3) % 4)

/-! ### Eyelet ports (R181–R183) -/

/-- The binding word of eyelet `e` of tile `t` (R181, R277). -/
def State.eyelet (s : State) (t e : Nat) : Word :=
  word ((s.frame (frameAddr t 4 0)).toNat >>> (32 * (2 + e)))

def eyQueue (b : Word) : Nat := fld b 0 14
def eyPop (b : Word) : Bool := bitOf b 14
def eyWidth (b : Word) : Nat := fld b 15 2

/-- Port lane `r` of the port whose lead is eyelet `e`, as fabric port and lane (R61, R181). -/
def eyLane (e r : Nat) : Nat × Nat := (16 + e + r / 15, r % 15)

/-- The number of entry bits of a port. -/
def eyBits (b : Word) : Nat := if eyWidth b = 2 then 32 else if eyWidth b = 3 then 64 else 0

/-- The outward lanes of a request (R182). -/
def eyRequest (b : Word) : Nat := if eyPop b || eyWidth b == 1 then 1 else eyBits b

/-- The inward lanes of an answer (R182). -/
def eyAnswer (b : Word) : Nat := if eyPop b then eyBits b + 2 else 1

/-- The port acknowledges its request lanes once the node has the request (R183). -/
def State.ackPort (s : State) (k : Nat) : State :=
  if k < 256 then s
  else
    let t := (k - 256) / 16
    let e := (k - 256) % 16
    let n := eyRequest (s.eyelet t e)
    (List.range 5).foldl (fun s d =>
      let ls := (List.range 15).filter (fun l => 15 * d + l < n)
      if ls.isEmpty then s else s.takeOutward t (16 + e + d) ls) s

/-! ### Packets -/

/-- The request of caller `k` reaches its home node, behind those that are there; a port acknowledges it (R168,
R174, R183). -/
def State.reachNode (k : Nat) (s : State) : State :=
  let s1 := (s.leaveNode k).ackPort k
  ({ s1 with lace := { s1.lace with arrived := s1.lace.arrived ++ [k] } }).modReq k (fun r => { r with aged := 0 })

/-- The request of caller `k` sets out for its home node; with no path it returns FAULT (R185, R186). -/
def State.sendReq (s : State) (k : Nat) (r : LaceReq) : State :=
  match s.lacePath (callerNode k) (homeNode r.queue) with
  | some p =>
    let s1 := s.setReq k { r with phase := .request, route := p, back := [], retries := 0, failedCrc := false, forced := false }
    if p.isEmpty then s1.reachNode k else s1
  | none => (s.setReq k { r with phase := .answer stFault 0 0, route := [], back := [] }).ackPort k

/-- The packet of caller `k` has crossed its next link. -/
def State.hopDone (s : State) (k : Nat) : State :=
  let r := s.req k
  match r.route with
  | [] => s
  | l :: p =>
    let asks := r.phase = .request
    let s1 := s.setReq k { r with
      route := p, back := if asks then l :: r.back else r.back, retries := 0, failedCrc := false, forced := false }
    if asks ∧ p.isEmpty then s1.reachNode k else s1

/-- PERT_LACE forces a CRC error on this packet (R384). -/
def State.laceForced (s : State) (l : Nat) : Bool :=
  s.pert.en.getLsbD 3 && match s.pert.laceArmed with
    | some (m, n) => m == l && decide (0 < n)
    | none => false

/-- A packet has used up one forced error. -/
def State.useForced (s : State) (l : Nat) : State :=
  if s.laceForced l then
    { s with pert := { s.pert with laceArmed := match s.pert.laceArmed with
      | some (m, n) => if n ≤ 1 then none else some (m, n - 1)
      | none => none } }
  else s

/-- Retries per packet and hop: 0 acts as 1, above 4 as 4 (R193). -/
def State.retryLimit (s : State) : Nat :=
  let n := s.lace.retryLimit.toNat
  if n = 0 then 1 else if 4 < n then 4 else n

/-- A link fails for good (R186, R194). -/
def State.failLink (s : State) (l tries : Nat) (forced : Bool) : State :=
  { s with lace := { s.lace with
      linkFail := s.lace.linkFail ||| BitVec.ofNat 4 (2 ^ l)
      errLink := true, errQueue := 0, errCaller := 129 } }.report
    { Report.of 0x08 with dev := true, index := l, detail := word tries, injected := forced }

/-! ### Descriptors (R169–R171) -/

def State.qWord (s : State) (q i : Nat) : Word := s.desc (4 * q + i)
def State.qKind (s : State) (q : Nat) : Nat := fld (s.qWord q 1) 28 4
def State.qWide (s : State) (q : Nat) : Bool := bitOf (s.qWord q 1) 27
def State.qCap (s : State) (q : Nat) : Nat := 2 ^ fld (s.qWord q 1) 22 5
def State.qSteal (s : State) (q : Nat) : Bool := bitOf (s.qWord q 1) 21
def State.qOwner (s : State) (q : Nat) : Nat := fld (s.qWord q 1) 13 8
def State.qFull (s : State) (q : Nat) : Bool := bitOf (s.qWord q 1) 12
/-- head and tail run modulo the capacity. -/
def State.qHead (s : State) (q : Nat) : Nat := fld (s.qWord q 2) 16 16 % s.qCap q
def State.qTail (s : State) (q : Nat) : Nat := fld (s.qWord q 2) 0 16 % s.qCap q
def State.qMark (s : State) (q : Nat) : Nat := fld (s.qWord q 3) 16 16
def State.qTmo (s : State) (q : Nat) : Nat := fld (s.qWord q 3) 4 12
def State.qEvbit (s : State) (q : Nat) : Nat := fld (s.qWord q 3) 0 4

/-- kind, lsize or owner holds an invalid value, or an EVENT queue is wide (R171). -/
def State.qInvalid (s : State) (q : Nat) : Bool :=
  let l := fld (s.qWord q 1) 22 5
  let o := s.qOwner q
  decide (4 ≤ s.qKind q) || decide (l < 4) || decide (16 < l) || (decide (129 ≤ o) && decide (o < 255)) ||
    (s.qWide q && s.qKind q == 3)

/-- The occupancy (R170). -/
def State.qCount (s : State) (q : Nat) : Nat :=
  if s.qFull q then s.qCap q else (s.qTail q + s.qCap q - s.qHead q) % s.qCap q

/-- head, tail and full written by the node (R170). -/
def State.setEnds (s : State) (q head tail : Nat) (full : Bool) : State :=
  let w1 := s.qWord q 1
  let s1 := s.setDesc (4 * q + 1) (if full then w1 ||| 0x1000#32 else w1 &&& ~~~0x1000#32)
  s1.setDesc (4 * q + 2) (word (head * 2 ^ 16 + tail))

/-- The byte address of a slot (R170). -/
def State.slotAddr (s : State) (q i : Nat) : Nat := s.ringBase q + i * (if s.qWide q then 8 else 4)

/-- The queue's ring can be used: it lies in banks that serve (R176, R315). -/
def State.ringOk (s : State) (q : Nat) : Bool :=
  s.qKind q == 3 || (!(s.ringTiles q).isEmpty && (s.ringTiles q).all s.bankServes)

/-- The entry in slot `i`: `none` when it is uncorrectable (R176). -/
def State.readSlot (s : State) (q i : Nat) : Option DWord × State :=
  if s.qKind q = 3 then (some (BitVec.ofNat 64 (s.qCount q)), s)
  else
    let wa := s.slotAddr q i / 4
    match s.moverRead wa with
    | (.data lo, s1) =>
      if s.qWide q then
        match s1.moverRead (wa + 1) with
        | (.data hi, s2) => (some (hi ++ lo), s2)
        | (.err _, s2) => (none, s2)
      else (some (BitVec.ofNat 64 lo.toNat), s1)
    | (.err _, s1) => (none, if s.qWide q then (s1.moverRead (wa + 1)).2 else s1)

/-- An entry written to slot `i`, every word of it (R175). -/
def State.writeSlot (s : State) (q i : Nat) (v : DWord) : State :=
  if s.qKind q = 3 then s
  else
    let wa := s.slotAddr q i / 4
    let s1 := s.moverWrite wa (BitVec.ofNat 32 v.toNat)
    if s.qWide q then s1.moverWrite (wa + 1) (BitVec.ofNat 32 (v.toNat >>> 32)) else s1

/-- A watermark crossing, when the occupancy has just become `n` (R177). -/
def State.crossMark (s : State) (q n : Nat) : State :=
  if s.qMark q = 0 ∨ n ≠ s.qMark q then s
  else
    let b := BitVec.ofNat 16 (2 ^ s.qEvbit q)
    let o := s.qOwner q
    if o < 128 then s.setEvents o b
    else if o = 128 then
      let m := homeNode q
      let old := SMap.read (fun _ => (0 : BitVec 16)) s.lace.nirqPend m
      { s with lace := { s.lace with
        nirqPend := SMap.write (fun _ => (0 : BitVec 16)) s.lace.nirqPend m (old ||| b) } }
    else s

/-- The entry is appended at the tail; the caller has checked that there is room (R170, R175, R177). -/
def State.append (s : State) (q : Nat) (v : DWord) : State :=
  let t := (s.qTail q + 1) % s.qCap q
  let n := s.qCount q + 1
  ((s.writeSlot q (s.qTail q) v).setEnds q (s.qHead q) t (decide (t = s.qHead q))).crossMark q n

/-- An entry is put back at the end that it was taken from: a steal's at the head, a pop's at the pop end, so that
the next one takes it (R173, R187). -/
def State.putBack (s : State) (q : Nat) (stolen : Bool) (v : DWord) : State :=
  if s.qKind q = 1 ∧ !stolen then s.append q v
  else
    let h := (s.qHead q + s.qCap q - 1) % s.qCap q
    let n := s.qCount q + 1
    ((s.writeSlot q h v).setEnds q h (s.qTail q) (decide (s.qTail q = h))).crossMark q n

/-! ### Counters under R8 (R193, R195) -/

/-- What the hardware counts on from: a clear in the same HK cycle is discarded. -/
def Lace.base (l : Lace) (time k now : Nat) : Nat :=
  match (SMap.read Meet.init l.meets k).clr with
  | some (t, old) => if t = time then old else now
  | none => now

/-- The hardware has changed counter `k` in this HK cycle. -/
def Lace.acted (time k : Nat) (l : Lace) : Lace :=
  { l with meets := SMap.write Meet.init l.meets k { hwAt := some time, clr := none } }

/-- The hardware changes counter `k` in this HK cycle, so that a clear is discarded. -/
def Lace.meeting (l : Lace) (time k : Nat) : Bool := (SMap.read Meet.init l.meets k).hwAt == some time

/-- Counter `k`, which held `now`, is cleared in this HK cycle. -/
def Lace.cleared8 (time k now : Nat) (l : Lace) : Lace :=
  { l with meets := SMap.write Meet.init l.meets k { hwAt := none, clr := some (time, now) } }

/-! ### Waiters (R173, R174) -/

/-- The oldest waiter of a queue that pushes, or that pops. -/
def State.oldestWaiter (s : State) (q : Nat) (push : Bool) : Option Waiter :=
  s.lace.waiters.find? (fun w => w.queue = q && w.isPush = push)

/-- A waiter leaves the list. -/
def State.unlist (s : State) (k : Nat) : State :=
  { s with lace := { s.lace with waiters := s.lace.waiters.filter (fun w => w.caller ≠ k) } }

/-- A waiter is served; its timeout runs on while the answer crosses the ring (R187). -/
def State.serve (s : State) (w : Waiter) (v : DWord) : State :=
  ((s.unlist w.caller).answer w.caller stOk v 0).modReq w.caller (fun r => { r with due := w.ticks })

/-- The entry reaches the queue: the oldest pop waiter takes it, else it is written to the ring (R173).
An EVENT waiter receives the count before its removal. -/
def State.pushEntry (s : State) (q : Nat) (v : DWord) : State :=
  match s.oldestWaiter q false with
  | some w => s.serve w (if s.qKind q = 3 then BitVec.ofNat 64 (s.qCount q + 1) else v)
  | none => s.append q v

/-- A removal has made room: the oldest waiting push is appended and answered (R173). -/
def State.fillRoom (s : State) (q : Nat) : State :=
  match s.oldestWaiter q true with
  | some w => (s.append q (s.req w.caller).data).serve w 0
  | none => s

/-- The number of waiters at node `m`. -/
def State.waitersAt (s : State) (m : Nat) : Nat := (s.lace.waiters.filter (fun w => homeNode w.queue = m)).length

/-- The request of caller `k` becomes a waiter; `ticks` is its timeout, 0 for none, and the boundaries since it
reached the node count (R173, R174). -/
def State.wait (s : State) (k q : Nat) (push : Bool) (ticks : Nat) : State :=
  let low := if s.lace.minTicks = 0 then 1 else s.lace.minTicks.toNat
  let bounds := if ticks = 0 then none else some ((if ticks < low then low else ticks) + 1 - (s.req k).aged)
  let s1 := s.modReq k (fun r => { r with phase := .waiting })
  let w : Waiter := { caller := k, queue := q, isPush := push, ticks := bounds }
  let s2 := { s1 with lace := { s1.lace with waiters := s1.lace.waiters ++ [w] } }
  let m := homeNode q
  let most := SMap.read (fun _ => 0) s2.lace.nwaitMax m
  { s2 with lace := { s2.lace with
    nwaitMax := SMap.write (fun _ => 0) s2.lace.nwaitMax m (max most (s2.waitersAt m)) } }

/-! ### Packets at a failed link (R185–R187) -/

/-- The answer carries an entry that has left its queue (R173). -/
def LaceReq.carries (r : LaceReq) (code : Nat) : Bool := code == stOk && r.op != .push && r.op != .stat

/-- An entry that can reach nobody can go back: its ring serves and has room. -/
def State.takesBack (s : State) (q : Nat) : Bool := s.ringOk q && s.qCount q != s.qCap q

/-- An entry that its caller will not have goes to the next waiter, or back to the end that it was taken from
(R173, R187). -/
def State.returnEntry (s : State) (r : LaceReq) (v : DWord) : State :=
  match s.oldestWaiter r.queue false with
  | some w => s.serve w v
  | none => s.putBack r.queue (r.op == .steal) v

/-- The packet of caller `k` meets a failed link: it goes the other way round. With no way left a request
returns FAULT, and an answer is delivered as FAULT, whose entry is not lost; while its queue has no room, the
packet stays where it is (R173, R186, R190, log entry 85). -/
def State.redirect (s : State) (k : Nat) : State :=
  let r := s.req k
  let goal := if r.phase = .request then homeNode r.queue else callerNode k
  let here := r.route.reverse.foldl linkEnd goal
  let fail := { r with phase := .answer stFault 0 0, route := [], retries := 0, failedCrc := false, forced := false }
  match s.lacePath here goal with
  | some p =>
    let s1 := s.setReq k { r with route := p, retries := 0, failedCrc := false, forced := false }
    if r.phase = .request ∧ p.isEmpty then s1.reachNode k else s1
  | none =>
    match r.phase with
    | .request => (s.setReq k fail).ackPort k
    | .answer code v _ =>
      if !r.carries code then s.setReq k fail
      else if s.takesBack r.queue then (s.setReq k fail).returnEntry r v
      else s.setReq k { r with retries := 0, failedCrc := false, forced := false }
    | .waiting => s

/-- RING_PACKET: the packet arrives over its next link, and its CRC is checked (R185). -/
def State.ringPacket (s : State) (k : Nat) (ok : Bool) : State :=
  let r := s.req k
  match r.route with
  | [] => s
  | l :: _ =>
    if r.failedCrc then s
    else if s.lace.linkFail.getLsbD l then s.redirect k
    else if ok && !s.laceForced l then s.hopDone k
    else (s.useForced l).modReq k (fun r => { r with failedCrc := true, forced := s.laceForced l })

/-- PACKET_RETRY: the packet is sent again; when the last retry fails, its link fails and the packet
goes the other way (R186). -/
def State.packetRetry (s : State) (k : Nat) (ok : Bool) : State :=
  let r := s.req k
  match r.route with
  | [] => s
  | l :: _ =>
    if !r.failedCrc then s
    else
      let forced := s.laceForced l
      let n := r.retries + 1
      let s0 := s.useForced l
      let s1 := { s0 with lace := { (s0.lace.acted s.time 8) with
        retryCnt := sat 0xFFFF (s0.lace.base s.time 8 s0.lace.retryCnt + 1) } }
      if ok && !forced then s1.hopDone k
      else if n < s.retryLimit then s1.modReq k (fun r => { r with retries := n, forced := r.forced || forced })
      else (s1.failLink l n (r.forced || forced)).redirect k

/-! ### Operations of the home node (R168, R175, R407) -/

/-- The number in LACE_ERR.caller (R194). -/
def errCallerOf (k : Nat) : Nat := if k < 256 then k else 255

/-- LACE_ERR names the queue and the caller of the most recent error. -/
def State.laceErr (s : State) (q k : Nat) : State :=
  { s with lace := { s.lace with errQueue := q, errCaller := errCallerOf k } }

/-- The caller is admitted to a push, or to a pop (R175). -/
def State.admits (s : State) (q k : Nat) (push : Bool) : Bool :=
  let kind := s.qKind q
  let own := k == 128 || (decide (k < 128) && s.qOwner q == k) || (decide (256 ≤ k) && s.qOwner q == 255)
  if kind = 1 then own else if kind = 2 ∧ !push then own else true

/-- The width of the request suits the queue: the w bit or a NARROW or WIDE port must match wide, and an
EVENT port only suits an EVENT queue (R175, R182). -/
def State.widthOk (s : State) (q : Nat) (r : LaceReq) : Bool :=
  r.wide == s.qWide q && (!r.eventPort || s.qKind q == 3)

/-- The first status of items 2 to 6 of R407 that applies. -/
def State.nodeCheck (s : State) (k : Nat) (r : LaceReq) : Option Nat :=
  let q := r.queue
  let denied := match r.op with
    | .push => !s.admits q k true
    | .pop => !s.admits q k false
    | .try => !s.admits q k false
    | .wait => !s.admits q k false
    | .take => !s.admits q k false
    | .steal => !s.qSteal q
    | .stat => false
  if s.qInvalid q then some stKind
  else if (r.op = .steal ∨ r.op = .take) ∧ s.qKind q ≠ 1 then some stKind
  else if denied then some stDenied
  else if !s.widthOk q r then some stKind
  else if !s.ringOk q then some stFault
  else none

/-- The caller whose request reached queue `q` first, of those that the node has not performed (R168). -/
def State.firstOn (s : State) (q : Nat) : Option Nat := s.lace.arrived.find? (fun k => (s.req k).queue == q)

/-- The request of caller `k` is at its home node, which may start it: it is the queue's first (R168, R190). -/
def State.atNode (s : State) (k : Nat) : Bool :=
  let r := s.req k
  r.phase == .request && r.route.isEmpty && !s.lace.hold && s.firstOn r.queue == some k &&
    (if k < 256 then (s.core k).wait == some .queue else r.eyelet)

/-- The node counts an operation, and the governor with it (R195, R345). -/
def State.countOp (s : State) (q : Nat) : State :=
  let m := homeNode q
  let n := s.lace.base s.time m (SMap.read (fun _ => 0) s.lace.nops m)
  { s with
    lace := { (s.lace.acted s.time m) with nops := SMap.write (fun _ => 0) s.lace.nops m ((n + 1) % 2 ^ 32) }
    pwr := { s.pwr with nodeOps := s.pwr.nodeOps + 1 } }

/-- One operation of the home node for caller `k`, when it is one of `ops`: the checks of R407 first,
then `act`. -/
def State.nodeOp (s : State) (k : Nat) (ops : List LaceOp) (act : LaceReq → State → State) : State :=
  let r := s.req k
  if !s.atNode k || !ops.contains r.op then s
  else
    let s1 := (s.countOp r.queue).leaveNode k
    match s1.nodeCheck k r with
    | some code => s1.answer k code 0 0
    | none => act r s1

/-- The entry of a slot is taken or, when uncorrectable, discarded (R176). -/
def State.takeSlot (s : State) (k q i head tail : Nat) : State :=
  match s.readSlot q i with
  | (some v, s1) => ((s1.setEnds q head tail false).answer k stOk v 0).fillRoom q
  | (none, s1) =>
    let s2 := (s1.setEnds q head tail false).laceErr q k
    (({ s2 with lace := { s2.lace with entryUe := true } }).answer k stFault 0 0).fillRoom q

/-- NODE_PUSH (R173, R175): FULL for a core, a wait for an eyelet port. -/
def pushAct (k : Nat) (r : LaceReq) (s : State) : State :=
  if (s.oldestWaiter r.queue false).isNone && s.qCount r.queue == s.qCap r.queue then
    if r.eyelet then s.wait k r.queue true 0 else s.answer k stFull 0 0
  else (s.answer k stOk 0 0).pushEntry r.queue r.data

/-- NODE_POP (R173–R176): DEQUE at the tail, the other kinds at the head. -/
def popAct (k : Nat) (r : LaceReq) (s : State) : State :=
  let q := r.queue
  if s.qCount q = 0 then
    match r.op with
    | .pop => s.wait k q false 0
    | .wait => s.wait k q false (if r.ticks = 0 then s.qTmo q else r.ticks)
    | _ => s.answer k stEmpty 0 0
  else if s.qKind q = 1 then
    let t := (s.qTail q + s.qCap q - 1) % s.qCap q
    s.takeSlot k q t (s.qHead q) t
  else s.takeSlot k q (s.qHead q) ((s.qHead q + 1) % s.qCap q) (s.qTail q)

/-- NODE_STEAL (R175): the oldest entry of a DEQUE. -/
def stealAct (k : Nat) (r : LaceReq) (s : State) : State :=
  let q := r.queue
  if s.qCount q = 0 then s.answer k stEmpty 0 0
  else s.takeSlot k q (s.qHead q) ((s.qHead q + 1) % s.qCap q) (s.qTail q)

/-- NODE_STAT (R175). -/
def statAct (k : Nat) (r : LaceReq) (s : State) : State :=
  s.answer k stOk (BitVec.ofNat 64 (s.qCount r.queue)) 0

/-- WAITER_TIMEOUT: a timeout has reached its last boundary. Expiry ends the waiter with TIMEOUT (R173,
R174); against an answer that crosses a hop under retry, the arbiter decides: when expiry wins, the
entry goes to the next waiter or back to the pop end (R187). -/
def State.waiterTimeout (s : State) (k : Nat) (expiryWins : Bool) : State :=
  let r := s.req k
  match r.phase with
  | .waiting =>
    if expiryWins && s.lace.waiters.any (fun w => w.caller = k && w.ticks = some 0) then
      (s.unlist k).answer k stTimeout 0 0
    else s
  | .answer code v _ =>
    if r.due ≠ some 0 then s
    else if !expiryWins || !r.failedCrc || code ≠ stOk || !s.takesBack r.queue then
      s.modReq k (fun r => { r with due := none })
    else
      let q := r.queue
      let s1 := s.setReq k { r with
        phase := .answer stTimeout 0 0, due := none, retries := 0, failedCrc := false, forced := false }
      let s3 := (s1.returnEntry r v).laceErr q k
      { s3 with lace := { s3.lace with retryTimeout := true } }.report { Report.of 0x09 with
        retry := true, timeout := true, injected := r.forced, dev := decide (k = 128)
        tile := if k < 128 then k else if k = 128 then 0 else (k - 256) / 16
        index := q % 1024, cell := q / 1024 }
  | .request => s

/-- One tick boundary of the free-running grid (R192): every timeout counts it. -/
def State.tickBoundary (s : State) : State :=
  let run := fun (w : Wait) => match w with
    | .tapRead t j rd rs (some n) => Wait.tapRead t j rd rs (some (n - 1))
    | w => w
  { s with
    lace := { s.lace with
      tickCount := 0, tickDiv := s.lace.nextDiv.getD s.lace.tickDiv, nextDiv := none
      waiters := s.lace.waiters.map (fun (w : Waiter) => { w with ticks := w.ticks.map (· - 1) })
      reqs := s.lace.reqs.map (fun (p : Nat × LaceReq) => (p.1, { p.2 with
        due := p.2.due.map (· - 1), aged := if s.lace.arrived.contains p.1 then p.2.aged + 1 else p.2.aged })) }
    cores := s.cores.map (fun (p : Nat × Core) => (p.1, { p.2 with wait := p.2.wait.map run })) }

/-! ### Eyelet operations (R183) -/

/-- The port of lead eyelet `e` accepts a request: its tile runs in a RUNNING region, no operation is in
flight, the last answer has been taken and the request lanes are complete (R183). -/
def State.portReady (s : State) (t e : Nat) : Bool :=
  let b := s.eyelet t e
  let k := 256 + 16 * t + e
  eyWidth b != 0 && s.moves t && s.regionState t == .running && !(s.req k).eyelet &&
    (List.range (eyRequest b)).all (fun r => (s.outward t (eyLane e r).1 (eyLane e r).2).isSome) &&
    (List.range (eyAnswer b)).all (fun r => s.inwardFree t (eyLane e r).1 (eyLane e r).2)

/-- The number on the request lanes. -/
def State.portData (s : State) (t e : Nat) : DWord :=
  BitVec.ofNat 64 ((List.range (eyRequest (s.eyelet t e))).foldl (fun v r =>
    v + (if s.outward t (eyLane e r).1 (eyLane e r).2 = some true then 2 ^ r else 0)) 0)

/-- A port's request sets out. -/
def State.portSend (s : State) (t e : Nat) (op : LaceOp) (data : DWord) : State :=
  let b := s.eyelet t e
  s.sendReq (256 + 16 * t + e) { LaceReq.init 0 with
    op := op, queue := eyQueue b, wide := eyWidth b == 3, eventPort := eyWidth b == 1
    eyelet := true, data := data }

/-- EYELET_PUSH (R182, R183). -/
def State.eyeletPush (s : State) (t e : Nat) : State :=
  if s.portReady t e && !eyPop (s.eyelet t e) then s.portSend t e .push (s.portData t e) else s

/-- EYELET_POP and EYELET_TRY: a request of value 0, or of value 1 (R182, R183). -/
def State.eyeletPop (s : State) (t e : Nat) (try_ : Bool) : State :=
  if s.portReady t e && eyPop (s.eyelet t e) && (s.portData t e == 1) == try_ then
    s.portSend t e (if try_ then .try else .wait) 0
  else s

/-- The code of a POP port (R182). -/
def eyCode (code : Nat) : Nat := if code = 0 then 0 else if code = 1 then 1 else if code = 3 then 2 else 3

/-- EYELET_ANSWER: the answer is offered on the inward lanes, and the port is done with it (R182, R183). -/
def State.eyeletAnswer (s : State) (t e : Nat) : State :=
  let k := 256 + 16 * t + e
  let r := s.req k
  let b := s.eyelet t e
  match r.phase with
  | .answer code v _ =>
    if !r.eyelet || !r.route.isEmpty || !s.moves t ||
        !(List.range (eyAnswer b)).all (fun r => s.inwardFree t (eyLane e r).1 (eyLane e r).2) then s
    else
      let n := eyBits b
      let bits := if eyPop b then (if code = 0 then v.toNat % 2 ^ n else 0) + eyCode code * 2 ^ n
        else (if code = 0 then 0 else 1)
      let s1 := (List.range (eyAnswer b)).foldl (fun s r =>
        s.offerInward t (eyLane e r).1 (eyLane e r).2 (bits.testBit r)) s
      let s2 := s1.withdraw k
      if (if eyPop b then eyCode code == 3 else code != 0) then
        let s3 := s2.laceErr r.queue k
        { s3 with lace := { s3.lace with eyeFault := true } }
      else s2
  | _ => s

/-- The request of caller `k` is withdrawn; an entry on its way to it is not lost (R173, R183, log entry 85). -/
def State.dropRequest (k : Nat) (s : State) : State :=
  let r := s.req k
  let s1 := (s.unlist k).withdraw k
  match r.phase with
  | .answer code v _ => if r.carries code && s.takesBack r.queue then s1.returnEntry r v else s1
  | _ => s1

/-- The ports of tile `t` lose what they asked and ask nothing (R173, R183). -/
def State.withdrawPorts (s : State) (t : Nat) : State :=
  (List.range 16).foldl (fun s e => s.dropRequest (256 + 16 * t + e)) s

/-! ### Queue instructions (R140–R142, R178) -/

/-- The entry that a push instruction carries: rb, or the pair rb and rb + 1. -/
def State.pushData (s : State) (c : Nat) (w : Word) : DWord :=
  if wideQ w then s.reg c (rbF w + 1) ++ s.reg c (rbF w) else BitVec.ofNat 64 (s.reg c (rbF w)).toNat

/-- What Quince holds for its present bank (R167). -/
def State.heldNow (s : State) : Option Held :=
  (s.quince.held.find? (fun p => p.1 = s.bankOf 128)).map (·.2)
def State.dropHeld (s : State) : State :=
  { s with quince := { s.quince with held := SMap.erase s.quince.held (s.bankOf 128) } }

/-- A queue instruction: the request is sent once every earlier store has been performed (R135, R141).
ra with a bit set in [31:14] ends with RANGE (R140, R407). On Quince, a result held for this bank is
taken instead, by whichever queue instruction comes first (R167; DESIGN CHOICE, log entry 91). -/
def queueBody (op : LaceOp) (c : Nat) (w : Word) (s : State) : State :=
  if !s.released c then s
  else
    let ra := s.reg c (raF w)
    let r : LaceReq := { LaceReq.init 0 with
      op := op, queue := ra.toNat % 0x4000, wide := wideQ w, data := s.pushData c w
      rd := rdF w, rs := rsQ w, ticks := if op = .wait then (s.reg c (rbF w)).toNat else 0 }
    let s1 := s.modCore c (fun x => { x with
      wait := some .queue
      state := if c ≠ 128 ∧ (op = .pop ∨ op = .wait) then .waiting else x.state })
    match (if c = 128 then s.heldNow else none) with
    | some (.queue code v) => s1.dropHeld.setReq c { r with phase := .answer code v 0 }
    | _ =>
      if 0x4000 ≤ ra.toNat then s1.setReq c { r with phase := .answer stRange 0 0 }
      else s1.sendReq c r

/-- TILE_STEALi of a Cobbler (R179). -/
def State.steal (s : State) (c i : Nat) : Word := SMap.read (fun _ => (0 : Word)) (s.tile c).steal i

/-- The victims in the order of TILE_STEALPOL (R178, R180). -/
def State.victims (s : State) (c : Nat) : List Nat :=
  let valid := fun i => bitOf (s.steal c i) 31
  if (s.tile c).stealNearest then
    let hops := fun i => (ringShort (callerNode c) (homeNode (fld (s.steal c i) 0 14))).length
    (List.range 3).flatMap (fun h => (List.range 8).filter (fun i => valid i && hops i == h))
  else ((List.range 8).map (fun j => ((s.tile c).stealLast + j) % 8)).filter valid

/-- A queue instruction completes: rd takes the result of an OK, and then rs the status, which remains where both
are one register (R142; DESIGN CHOICE, log entry 88). -/
def State.finishQueue (s : State) (c code src : Nat) (v : DWord) : State :=
  let r := s.req c
  let takes := code == stOk && r.op != .push
  let s1 := if takes then s.setReg c r.rd (BitVec.ofNat 32 v.toNat) else s
  let s2 := if takes && r.wide && r.op != .stat then s1.setReg c (r.rd + 1) (BitVec.ofNat 32 (v.toNat >>> 32)) else s1
  ((s2.setReg c r.rs (statusWord code src)).withdraw c).retire c (s.pc4 c)

/-- The next victim of a QTAKE is tried, or QTAKE ends with EMPTY (R178). -/
def State.tryVictims (s : State) (c : Nat) : List Nat → State
  | [] => s.finishQueue c stEmpty 0 0
  | i :: rest => s.sendReq c { s.req c with
      queue := fld (s.steal c i) 0 14, op := .steal, victim := some i, left := rest }

/-- QUEUE_RESPONSE: the answer has reached the core (R142, R178). -/
def State.queueResponse (s : State) (c : Nat) : State :=
  let r := s.req c
  if (s.core c).wait ≠ some .queue ∨ !r.route.isEmpty then s
  else match r.phase with
    | .answer code v _ =>
      match r.victim with
      | some i =>
        if code = stOk then
          (s.modTile c (fun x => { x with stealLast := i })).finishQueue c stOk (1 + i) v
        else s.tryVictims c r.left
      | none =>
        if r.op = .take ∧ code = stEmpty ∧ c ≠ 128 then s.tryVictims c (s.victims c)
        else s.finishQueue c code 0 v
    | _ => s

/-! ### Adoption (R188) -/

/-- The descriptors that may name engine `e`: its default ones and every one written. -/
def State.descsOf (s : State) (e : Nat) : List Nat :=
  ((List.range 128).map (128 * e + ·) ++ (s.lace.desc.map (fun (p : Nat × Word) => p.1 / 4))).filter (fun q => s.qOwner q = e)

/-- The engine can adopt: RUNNING, WAITING, HALTED or SYS (R359). -/
def EngState.adopts : EngState → Bool
  | .running => true | .waiting => true | .halted => true | .sys => true
  | _ => false

/-- NEXT: the first engine after `e` in its quadrant that can adopt, else Quince (R359). -/
def State.adoptNext (s : State) (e : Nat) : Nat :=
  match ((List.range 31).map (fun i => 32 * (e / 32) + (e + 1 + i) % 32)).find?
      (fun k => (s.core k).state.adopts) with
  | some k => k
  | none => 128

/-- The adopter that FLT_POLICY selects (R359, R370). -/
def State.adopterOf (s : State) (e : Nat) : Nat :=
  if s.flt.adoptFixed then
    let a := s.flt.adoptEng.toNat
    if 128 ≤ a then 128
    else match (s.core a).state with
      | .fenced => s.adoptNext e
      | .off => s.adoptNext e
      | _ => a
  else s.adoptNext e

/-- The adoption at the head of the list chooses its adopter when its turn comes (R359, R361). -/
def State.startAdoption (s : State) : State :=
  match s.lace.adoptions with
  | a :: rest =>
    match a.adopter with
    | none => { s with lace := { s.lace with
        adoptions := ({ engine := a.engine, adopter := some (s.adopterOf a.engine) } : Adoption) :: rest } }
    | some _ => s
  | [] => s

/-- A fenced engine's adoption joins the list; one that already waits is not repeated (R359, R361). -/
def State.askAdoption (s : State) (e : Nat) : State :=
  if s.lace.adoptions.any (fun a => a.engine = e) then s
  else
    let s1 : State := { s with lace := { s.lace with
      adoptions := s.lace.adoptions ++ [{ engine := e, adopter := none }] } }
    s1.startAdoption

/-- ADOPTION_COMPLETE: the adoption under way has rewritten every descriptor; the adopter's event bit is
set, or with Quince the record is the notice (R188, R359). -/
def State.finishAdoption (s0 : State) : State :=
  let s := s0.startAdoption
  match s.lace.adoptions with
  | [] => s
  | a :: rest =>
    let heir := a.adopter.getD 128
    let s1 := (s.descsOf a.engine).foldl (fun s q =>
      s.setDesc (4 * q + 1) ((s.qWord q 1 &&& ~~~0x1FE000#32) ||| word (heir * 2 ^ 13))) s
    let s2 := { s1 with lace := { s1.lace with adoptions := rest } }
    let s3 := if heir < 128 then
        s2.setEvents heir (BitVec.ofNat 16 (2 ^ s2.lace.adoptEv.toNat))
      else s2
    (s3.report { Report.of 0x0E with tile := a.engine, detail := word heir }).startAdoption

/-! ### Descriptor accesses (R172) -/

/-- A store to a descriptor: Quince's always, a Cobbler's while word 1 names it as owner. A store to
word 2 clears full (R170). -/
def State.storeDesc (s : State) (c off : Nat) (en : BitVec 4) (d : Word) : State :=
  let q := off / 16
  let i := off / 4 % 4
  if c = 128 ∨ s.qOwner q = c then
    let s1 := s.setDesc (off / 4) (mergeBytes (s.desc (off / 4)) d en)
    if i = 2 then s1.setDesc (4 * q + 1) (s1.qWord q 1 &&& ~~~0x1000#32) else s1
  else
    let s1 := s.laceErr q c
    { s1 with lace := { s1.lace with descRej := true } }

/-! ### The meanings -/

def execQpush (c : CoreId) (f : Option Word) (s : State) : Result :=
  .next (runInstr c f (isOp 0x20) (queueBody .push) s)
def execQpop (c : CoreId) (f : Option Word) (s : State) : Result :=
  .next (runInstr c f (isOp 0x21) (queueBody .pop) s)
def execQtry (c : CoreId) (f : Option Word) (s : State) : Result :=
  .next (runInstr c f (isOp 0x22) (queueBody .try) s)
def execQsteal (c : CoreId) (f : Option Word) (s : State) : Result :=
  .next (runInstr c f (isOp 0x23) (queueBody .steal) s)
def execQtake (c : CoreId) (f : Option Word) (s : State) : Result :=
  .next (runInstr c f (isOp 0x24) (queueBody .take) s)
def execQwait (c : CoreId) (f : Option Word) (s : State) : Result :=
  .next (runInstr c f (isOp 0x25) (queueBody .wait) s)
def execQstat (c : CoreId) (f : Option Word) (s : State) : Result :=
  .next (runInstr c f (isOp 0x26) (queueBody .stat) s)
def execQueueResponse (c : CoreId) (s : State) : Result := .next (s.queueResponse c)
def execNodePush (k : LaceCaller) (s : State) : Result :=
  .next (s.nodeOp (callerKey k) [.push] (pushAct (callerKey k)))
def execNodePop (k : LaceCaller) (s : State) : Result :=
  .next (s.nodeOp (callerKey k) [.pop, .try, .wait, .take] (popAct (callerKey k)))
def execNodeSteal (k : LaceCaller) (s : State) : Result :=
  .next (s.nodeOp (callerKey k) [.steal] (stealAct (callerKey k)))
def execNodeStat (k : LaceCaller) (s : State) : Result :=
  .next (s.nodeOp (callerKey k) [.stat] (statAct (callerKey k)))
def execWaiterTimeout (k : LaceCaller) (expiryWins : Bool) (s : State) : Result :=
  .next (s.waiterTimeout (callerKey k) expiryWins)
def execRingPacket (k : LaceCaller) (crcOk : Bool) (s : State) : Result :=
  .next (s.ringPacket (callerKey k) crcOk)
def execPacketRetry (k : LaceCaller) (crcOk : Bool) (s : State) : Result :=
  .next (s.packetRetry (callerKey k) crcOk)
def execEyeletPush (t : TileId) (e : Fin 16) (s : State) : Result := .next (s.eyeletPush t e)
def execEyeletPop (t : TileId) (e : Fin 16) (s : State) : Result := .next (s.eyeletPop t e false)
def execEyeletTry (t : TileId) (e : Fin 16) (s : State) : Result := .next (s.eyeletPop t e true)
def execEyeletAnswer (t : TileId) (e : Fin 16) (s : State) : Result := .next (s.eyeletAnswer t e)
def execAdoptionComplete (s : State) : Result := .next s.finishAdoption

/-- A store to a descriptor is applied (R172): this command is one that a core's store makes. -/
def execDescriptorStore (c : CoreId) (addr : Word) (width : MemWidth) (data : Word) (s : State) : Result :=
  .next (match target c addr with
    | .desc off =>
      if (alignCheck addr width).isNone then
        s.storeDesc c off (lanesOf addr width) (laneData addr data)
      else s
    | _ => s)

/-- LACE_RETRY.cnt_clr; discarded when the hardware counts in the same HK cycle (R8, R193). -/
def State.clearRetries (s : State) : State :=
  if s.lace.meeting s.time 8 then s
  else { s with lace := { (s.lace.cleared8 s.time 8 s.lace.retryCnt) with retryCnt := 0 } }
def execLaceRetryCntClr (s : State) : Result := .next s.clearRetries

/-- LACE_NCTRL.cnt_clr; discarded when the node counts in the same HK cycle (R8, R195). -/
def State.clearNops (s : State) (m : Nat) : State :=
  if s.lace.meeting s.time m then s
  else { s with lace := { (s.lace.cleared8 s.time m (SMap.read (fun _ => 0) s.lace.nops m)) with
    nops := SMap.write (fun _ => 0) s.lace.nops m 0 } }
def execLaceNopsCntClr (m : Fin 4) (s : State) : Result := .next (s.clearNops m)

/-- LACE_NCTRL.max_clr (R195). -/
def State.clearWaitMax (s : State) (m : Nat) : State :=
  { s with lace := { s.lace with nwaitMax := SMap.write (fun _ => 0) s.lace.nwaitMax m (s.waitersAt m) } }
def execLaceMaxClr (m : Fin 4) (s : State) : Result := .next (s.clearWaitMax m)

/-- A LACE_TICK write: div takes effect at the next boundary (R192). -/
def State.writeLaceTick (s : State) (v : Word) : State :=
  { s with lace := { s.lace with
    nextDiv := some (BitVec.ofNat 16 (fld v 0 16)), minTicks := BitVec.ofNat 4 (fld v 16 4) } }
def execLaceTickWrite (v : Word) (s : State) : Result := .next (s.writeLaceTick v)

end Sys2Proof.Machine
end

