-- ==== Sys2Proof/Machine/Engines.lean ====
section
/-! DEFINITION. The control of an engine from outside: start, resume, halt, step, the engine timer, the
engine watchdog and events (R143, R147, R152, R154–R159), and how a core leaves an instruction that it
waits in. -/

namespace Sys2Proof.Machine

/-! ### Leaving an instruction (R143, R151, R167) -/

/-- The core waits at no tap any more. -/
def State.leaveTap (s : State) (c : Nat) : State := { s with tapQueue := s.tapQueue.filter (· ≠ c) }

/-- An outstanding load and everything younger are undone: the core is back at the load (R151, R167). -/
def State.undoLoad (c : Nat) (s : State) : State :=
  match (s.core c).load with
  | some l => s.modCore c (fun x => { x with load := none, pc := l.pc, regs := l.regs, instret := l.instret })
  | none => s

/-- The node or the victims of QTAKE have answered a core's request, so that the arrival has won (R143). -/
def State.answered (s : State) (c : Nat) : Bool :=
  (s.core c).wait == some .queue && match (s.req c).phase with
    | .answer _ _ _ => true
    | _ => false

/-- A waiting instruction is left with nothing taken: its request, its place in a waiter list and its
place at a tap are gone (R143, R173). -/
def State.abandonWait (c : Nat) (s : State) : State :=
  let s1 := match (s.core c).wait with
    | some .queue => (s.unlist c).withdraw c
    | some (.tapRead _ _ _ _ _) => s.leaveTap c
    | some (.tapWrite _ _ _) => s.leaveTap c
    | _ => s
  s1.modCore c (fun x => { x with wait := none })

/-- The engine is taken out of service in state `st`: FENCED or OFF. An answer that has been given is
delivered first (R173); whatever else it waited for is left with nothing taken, its posted stores are
discarded (R358, R359), and TILE_EPC keeps the place where a running engine stopped. -/
def State.parkEngine (e : Nat) (st : EngState) (s : State) : State :=
  let s1 := if s.answered e then (s.modReq e (fun r => { r with route := [] })).queueResponse e else s
  let s2 := (s1.abandonWait e).undoLoad e
  s2.modCore e (fun x => { x with
    state := st
    epc := match x.state with
      | .running => x.pc
      | .waiting => x.pc
      | _ => x.epc
    stores := [], storeErr := none, haltPend := false, stepping := false })

/-! ### TILE_CTRL (R154, R159) -/

/-- A Cobbler begins at 0x0180_0000 with g1–g15 zero (R126, R154). -/
def State.startEngine (e : Nat) (s : State) : State :=
  s.modCore e (fun x => { x with
    pc := 0x01800000#32, regs := [], state := .running, fetchEpoch := s.memEpoch })

/-- start: in HALTED or FAULTED; the cause returns to NONE and INSTRET and the scratch CSRs to zero
(R149, R154). -/
def State.start (e : Nat) (s : State) : State :=
  match (s.core e).state with
  | .halted => (s.startEngine e).modCore e
      (fun x => { x with cause := .none, instret := 0, scratch0 := 0, scratch1 := 0 })
  | .faulted => (s.startEngine e).modCore e
      (fun x => { x with cause := .none, instret := 0, scratch0 := 0, scratch1 := 0 })
  | _ => s

/-- The engine goes on at TILE_EPC with its registers as they stand; it fetches afresh. -/
def State.goOn (e : Nat) (stepping : Bool) (s : State) : State :=
  s.modCore e (fun x => { x with
    pc := x.epc, state := .running, stepping := stepping, fetchEpoch := s.memEpoch })

/-- resume: in HALTED, FAULTED or SYS (R154). -/
def State.resume (e : Nat) (s : State) : State :=
  match (s.core e).state with
  | .halted => s.goOn e false
  | .faulted => s.goOn e false
  | .sys => s.goOn e false
  | _ => s

/-- step: one instruction, in HALTED (R154). -/
def State.stepEngine (e : Nat) (s : State) : State :=
  match (s.core e).state with
  | .halted => s.goOn e true
  | _ => s

/-- halt: in RUNNING or WAITING, at the next instruction boundary. A waiting instruction follows R143: one
that nothing has answered is left, and TILE_EPC names it; a pending deferred trap wins (R159). -/
def State.halt (e : Nat) (s : State) : State :=
  let x := s.core e
  match x.state with
  | .running =>
    if x.load.isNone && x.wait.isNone && x.storeErr.isNone then s.stopCobbler e .haltreq x.pc 0 false
    else s.modCore e (fun x => { x with haltPend := true })
  | .waiting =>
    if s.answered e then s.modCore e (fun x => { x with haltPend := true })
    else (s.abandonWait e).stopCobbler e .haltreq x.pc 0 false
  | _ => s

/-! ### TILE_TIMER (R157) -/

/-- A write of TILE_TIMER: a count that is not zero starts the timer and is what it reloads. -/
def State.writeTileTimer (t : Nat) (v : Word) (s : State) : State :=
  let n := BitVec.ofNat 28 (fld v 0 28)
  s.modTile t (fun x => { x with
    timerCount := n, timerPeriodic := bitOf v 28, timerReload := if n = 0 then x.timerReload else n })

/-- The timer reaches zero: event bit 15, and a reload when it is periodic. -/
def State.tileTimerExpire (t : Nat) (s : State) : State :=
  (s.modTile t (fun x => { x with timerCount := if x.timerPeriodic then x.timerReload else 0 })).setEvents t 0x8000#16

/-! ### The engine watchdog (R152, R355) -/

/-- The engine can be without progress: the watchdog is on and the engine runs. Every waiting or stopped
state counts as progress (R152, R371). -/
def State.canHang (s : State) (e : Nat) : Bool :=
  s.flt.ewdog != 0 && (s.core e).state == .running && !s.answered e

/-- ENG_WDOG: the engine goes to FAULTED with cause WDOG, and the fault is reported (R150, R151, R355). -/
def State.engWdog (e : Nat) (s : State) : State :=
  if s.canHang e then
    let s1 := (s.abandonWait e).undoLoad e
    let pc := (s1.core e).pc
    (s1.stopCobbler e .wdog pc 0 false).report
      { Report.of 0x06 with tile := e, cause := Cause.wdog.code, detail := pc }
  else s

/-! ### The meanings -/

def execStart (t : TileId) (s : State) : Result := .next (s.start t)
def execResume (t : TileId) (s : State) : Result := .next (s.resume t)
def execHaltRequest (t : TileId) (s : State) : Result := .next (s.halt t)
def execStep (t : TileId) (s : State) : Result := .next (s.stepEngine t)
def execTileTimerWrite (t : TileId) (v : Word) (s : State) : Result := .next (s.writeTileTimer t v)

/-- The expiry ends the run of HK cycles that brings the count to zero (log entry 21). -/
def execTileTimerExpiry (t : TileId) (s : State) : Result :=
  .next (if (s.tile t).timerCount = 0 then s else s.tileTimerExpire t)

def execEngWdog (t : TileId) (s : State) : Result := .next (s.engWdog t)

/-- A setting of an event bit by one of its sources arrives (R147, R148). -/
def execTileEvtSet (t : TileId) (b : Fin 16) (s : State) : Result :=
  .next (s.setEvents t (BitVec.ofNat 16 (2 ^ b.val)))

end Sys2Proof.Machine
end

