-- ==== Sys2Proof/Machine/Tiles.lean ====
section
/-! DEFINITION. Taking a tile or an engine out of service and bringing it back: gating and powering
(R346–R348), fencing (R358–R361), and the end of a partial load (R285, R311). -/

namespace Sys2Proof.Machine

/-! ### Regions -/

/-- The tiles of a region (R303). -/
def State.regionTiles (s : State) (r : Nat) : List Nat :=
  (List.range 128).filter (fun t => s.regionOf t = r)

/-- A command of CFG_PCMD is in progress on region `r`. -/
def State.commanded (s : State) (k : RegionCmd) (r : Nat) : Bool := s.cfg.cmds.contains (k, r)

/-- The load, release or clear of region `r` has ended (R321). -/
def State.commandDone (r : Nat) (s : State) : State :=
  { s with cfg := { s.cfg with cmds := s.cfg.cmds.filter (fun c => c.2 ≠ r), pcmdDone := true } }

/-- The region that a partial load writes. -/
def State.loadRegion (s : State) : Nat :=
  match s.cfg.cmds.find? (fun c => c.1 = .load) with
  | some c => c.2
  | none => 0

/-- A load error is recorded in CFG_ERR and CFG_ERRADDR (R296, R297). -/
def State.setErr (s : State) (code : Nat) (addr : Word) (isOffset inRetry golden partialImage : Bool) : State :=
  { s with cfg := { s.cfg with
    err := code, errAddr := addr, errIsOffset := isOffset, errInRetry := inRetry
    errGolden := golden, errPartial := partialImage } }

/-- A partial load ends with an error: one LOAD record, and its region goes to ABORTED, or to FENCED when
a fence ended it (R284, R285, R311, R312). -/
def State.endPartial (code : Nat) (addr : Word) (isOffset inRetry : Bool) (last : RegionState) (s : State) : State :=
  let s1 := s.setErr code addr isOffset inRetry false true
  let s2 := s1.modRegion s.loadRegion (fun g => { g with state := last })
  let s3 := { s2 with cfg := { s2.cfg with load := none, state := .done } }
  (s3.commandDone s.loadRegion).report { Report.of 0x0A with
    inRetry := inRetry, isPartial := true, action := 5, dev := true, index := code, detail := addr }

/-- A partial load ends with ABORTED: by command, fence or reload (R305, R311, R312). CFG_ERRADDR holds the
offset of the record that was next (R297). -/
def State.abortPartial (last : RegionState) (s : State) : State :=
  s.endPartial errAborted (match s.cfg.load with | some l => word l.offset | none => 0) true false last

/-! ### Gating (R346, R348) -/

/-- The engine of a tile that is gated goes to OFF; a fenced engine stays FENCED (R155, R360). -/
def State.offEngine (e : Nat) (s : State) : State :=
  if (s.core e).state = .fenced then s else s.parkEngine e .off

/-- A test that runs on the tile is cut short (R373). -/
def State.cutTile (t : Nat) (s : State) : State := { s with bist := s.bist.cutTile t }

/-- What is outside the tile lets go of it: eyelet ports, seams, pins and Awl (R346, R358, R373). -/
def State.detachTile (t : Nat) (s : State) : State :=
  (((s.withdrawPorts t).resetTileSeams t).containTilePins t).cutTile t

/-- A write to a PWR_GATE bit of tile `t` is refused (R348). -/
def State.gateRefused (s : State) (t : Nat) : Bool := (s.tile t).fenced || s.regionState t != .running

def State.rejectGate (s : State) : State := { s with pwr := { s.pwr with gateRej := true } }

/-- A tile leaves the queue for power (R347). -/
def State.unqueue (t : Nat) (s : State) : State :=
  { s with pwr := { s.pwr with powerQueue := s.pwr.powerQueue.filter (· ≠ t) } }

/-- Gating of a tile starts: the engine goes to OFF, its waiters and those of the eyelet ports end, seams
and pins let go (R346). -/
def State.startGate (t : Nat) (retain : Bool) (s : State) : State :=
  ((s.modTile t (fun x => { x with power := .gating retain })).offEngine t).detachTile t

/-- A write of 1 to a PWR_GATE bit (R346, R348). -/
def State.gateTile (t : Nat) (s : State) : State :=
  if s.gateRefused t then s.rejectGate
  else match (s.tile t).power with
    | .on => s.startGate t (s.tile t).retMode
    | .restoring _ => s.startGate t (s.tile t).retMode
    | .gating _ => s.unqueue t
    | .queued r => (s.unqueue t).modTile t (fun x => { x with power := if r then .retain else .gated })
    | _ => s

/-- Power is removed: the cells lose their tokens; configuration memory is kept (R346). -/
def State.removePower (t : Nat) (s : State) : State :=
  match (s.tile t).power with
  | .gating r =>
    (s.holdTile t).modTile t (fun x => { x with
      power := if s.pwr.powerQueue.contains t then .queued r else if r then .retain else .gated
      clearing := false })
  | _ => s

/-! ### Powering (R347) -/

/-- A write of 0 to a PWR_GATE bit: the tile joins the queue for power (R347, R348). -/
def State.powerTile (t : Nat) (s : State) : State :=
  let join := fun (s : State) => { s with pwr := { s.pwr with powerQueue := s.pwr.powerQueue ++ [t] } }
  if s.gateRefused t then s.rejectGate
  else match (s.tile t).power with
    | .gated => (join s).modTile t (fun x => { x with power := .queued false })
    | .retain => (join s).modTile t (fun x => { x with power := .queued true })
    | .gating _ => if s.pwr.powerQueue.contains t then s else join s
    | _ => s

/-- g1 to g15 after a loss of power: the manual does not give them (log entry 7). -/
def State.scrambleRegs (e : Nat) (s : State) : State :=
  (List.range 15).foldl (fun s n => let (w, s1) := s.drawWord; s1.setRegIn e 0 (n + 1) w) s

/-- The next tile of the queue has its power restored; its memories are cleared and its cells held (R124,
R347). -/
def State.restorePower (s : State) : State :=
  match s.pwr.powerQueue with
  | t :: _ =>
    match (s.tile t).power with
    | .queued r =>
      ((((s.unqueue t).modTile t (fun x => { x with power := .restoring r })).holdTile t).startClear t r).scrambleRegs t
    | _ => s
  | [] => s

/-- The memories are clear: tokens are placed, writes enabled, the engine goes to HALTED, and the pins
follow their sources again (R155, R347). -/
def State.completePower (t : Nat) (s : State) : State :=
  match (s.tile t).power with
  | .restoring _ =>
    if (s.tile t).clearing then s
    else
      let s1 := ((s.modTile t (fun x => { x with power := .on })).placeTile t).enableTile t
      (s1.modCore t (fun x => if x.state = .fenced then x else { x with state := .halted })).uncontainTilePins t
  | _ => s

/-- A tile is powered at once, as the fence of R348, LOADING and the start of a full load do; memory that
had lost its power, or was being cleared, is cleared (R279, R306, R348). -/
def State.forcePower (t : Nat) (s : State) : State :=
  let s1 := (s.unqueue t).modTile t (fun x => { x with power := .on })
  match (s.tile t).power with
  | .gated => s1.startClear t false
  | .retain => s1.startClear t true
  | .queued r => s1.startClear t r
  | _ => s1

/-! ### Health (R366–R368) -/

/-- SERVICE is set, and holds, once a threshold that is not zero is met (R366, R368). -/
def Dev.judge (d : Dev) : Dev :=
  { d with
    svcTiles := d.svcTiles || (d.tileThr != 0 && decide (d.tileThr.toNat ≤ d.tilesTotal))
    svcCfg := d.svcCfg || (d.cfgThr != 0 && decide (d.cfgThr.toNat ≤ d.cfgUeTotal)) }

/-- A tile is newly fenced by a fault; its engine counts too unless it was fenced (R367). -/
def Dev.countTile (engineToo : Bool) (d : Dev) : Dev :=
  { d with
    tilesTotal := sat 255 (d.tilesTotal + 1)
    enginesTotal := if engineToo then sat 255 (d.enginesTotal + 1) else d.enginesTotal }.judge

/-! ### Fences (R358–R361) -/

/-- The region of a fenced tile reads FENCED; a partial load of it ends with ABORTED, and a release or
clear ends. Its eyelet ports, in all its tiles, ask nothing more (R183, R304, R312). Before the END verdict of a
full load the region reads LOADING until the verdict (R304). -/
def State.fenceRegion (t : Nat) (s : State) : State :=
  let r := s.regionOf t
  if s.cfg.state = .loadingFull ∧ s.cfg.boot ≠ .tests then s
  else
    let s1 := if s.commanded .load r then s.abortPartial .fenced
      else
        let s1 := if s.cfg.cmds.any (fun c => c.2 = r) then s.commandDone r else s
        s1.modRegion r (fun g => { g with state := .fenced })
    (s1.regionTiles r).foldl State.withdrawPorts s1

/-- Fences of tile `t` and of its engine that have been asked for take place no more (R360, R361). -/
def Flt.dropFences (t : Nat) (f : Flt) : Flt :=
  { f with tileReq := f.tileReq.filter (fun q => q.1 ≠ t), engReq := f.engReq.filter (fun q => q.1 ≠ t) }

/-- TILE_FENCE (R358): engine, cells, Lace, seams and pins are contained; the welts seal by the tile's
`fenced`. A tile that is being gated or powered ends powered and fenced (R348). -/
def State.fenceTile (t : Nat) (byFault : Bool) (s : State) : State :=
  if (s.tile t).fenced then s
  else
    let engineToo := (s.core t).state != .fenced
    let s1 := (s.forcePower t).parkEngine t .fenced
    let s2 := ((s1.modTile t (fun x => { x with fenced := true })).holdTile t)
    let s3 := (s2.detachTile t).resetPinSeamsF t
    let s4 := if engineToo then s3.askAdoption t else s3
    let s5 := s4.fenceRegion t
    { s5 with
      flt := { s5.flt.dropFences t with tileFence := true, engFence := s5.flt.engFence || engineToo }
      dev := if byFault then s5.dev.countTile engineToo else s5.dev }

/-- ENGINE_FENCE (R359). -/
def State.fenceEngine (e : Nat) (byFault : Bool) (s : State) : State :=
  if (s.core e).state = .fenced then s
  else
    let s1 := (s.parkEngine e .fenced).askAdoption e
    { s1 with
      flt := { s1.flt with engFence := true }
      dev := if byFault then { s1.dev with enginesTotal := sat 255 (s1.dev.enginesTotal + 1) } else s1.dev }

/-- An engine outside RUNNING service: its tile is gated, or in a region that is not live (R155). -/
def State.engineOff (s : State) (e : Nat) : Bool :=
  (s.tile e).power != .on || !(s.regionState e == .running || s.regionState e == .fenced)

/-- A write of 0 to an FLT_EFENCE bit (R360). -/
def State.releaseEngine (e : Nat) (s : State) : State :=
  if (s.core e).state = .fenced ∧ !(s.tile e).fenced then
    s.modCore e (fun x => { x with state := if s.engineOff e then .off else .halted })
  else s

/-- The fences of a tile, its bank and its engine are lifted, those that were asked for among them; the engine is
OFF (R117, R306, R360). -/
def State.liftFences (t : Nat) (s : State) : State :=
  let s1 := (s.parkEngine t .off).modTile t (fun x => { x with fenced := false, bankFenced := false })
  { s1 with flt := s1.flt.dropFences t }

/-! ### The meanings -/

def execTileGate (t : TileId) (s : State) : Result := .next (s.gateTile t)
def execTilePowerRemoved (t : TileId) (s : State) : Result := .next (s.removePower t)
def execTilePower (t : TileId) (s : State) : Result := .next (s.powerTile t)
def execTilePowerRestore (s : State) : Result := .next s.restorePower
def execTilePowerComplete (t : TileId) (s : State) : Result := .next (s.completePower t)

/-- A fence that has been asked for takes place (R358, R361). -/
def execTileFence (t : TileId) (s : State) : Result :=
  .next (match s.flt.tileReq.find? (fun q => q.1 = t.val) with
    | some q => ({ s with flt := { s.flt with tileReq := s.flt.tileReq.erase q } } : State).fenceTile t q.2
    | none => s)

def execEngineFence (t : TileId) (s : State) : Result :=
  .next (match s.flt.engReq.find? (fun q => q.1 = t.val) with
    | some q => ({ s with flt := { s.flt with engReq := s.flt.engReq.erase q } } : State).fenceEngine t q.2
    | none => s)

def execEfenceRelease (t : TileId) (s : State) : Result := .next (s.releaseEngine t)

end Sys2Proof.Machine
end

