-- ==== Sys2Proof/Machine/Faults.lean ====
section
/-! DEFINITION. The fault manager (R355–R357, R361), the tile stall watchdog (R363–R365), command fences
and what DEV_HEALTH shows (R366, R367). -/

namespace Sys2Proof.Machine

/-! ### Records (R355–R357) -/

/-- The action that a report leads to under FLT_POLICY (R355, R370). -/
def State.actionOf (s : State) (r : Report) : Nat :=
  if r.code = 0x01 ∨ r.code = 0x02 ∨ r.code = 0x03 then 2
  else if r.code = 0x05 then b2n s.flt.trapFence
  else if r.code = 0x06 then b2n s.flt.wdogFence
  else if r.code = 0x0F then 6
  else r.action

/-- The four words of a record (R356). -/
def Report.record (r : Report) (action : Nat) (seq : Byte) : Record where
  w0 := r.time
  w1 := word (r.code + atBit r.inRetry 8 + atBit r.retry 9 + atBit r.timeout 10 + atBit r.isPartial 11 +
    atBit r.golden 12 + atBit r.injected 13 + action * 2 ^ 16 + seq.toNat * 2 ^ 24)
  w2 := word ((if r.dev then 0 else r.tile % 128) + atBit r.dev 7 + (r.index % 1024) * 2 ^ 8 +
    (r.cell % 16) * 2 ^ 18 + (r.cause % 256) * 2 ^ 22)
  w3 := r.detail

/-- An empty record. -/
def Record.zero (_i : Nat) : Record where
  w0 := 0
  w1 := 0
  w2 := 0
  w3 := 0

/-- A record enters the ring; overwriting one that was written after the last clear of `new` sets lost
(R357, R371). -/
def Flt.enter (x : Record) (f : Flt) : Flt :=
  { f with
    log := SMap.write Record.zero f.log f.head x
    head := (f.head + 1) % 64
    wrapped := f.wrapped || f.head == 63
    lost := f.lost || decide (64 ≤ f.fresh)
    fresh := sat 64 (f.fresh + 1)
    count := sat 0xFFFF (f.count + 1)
    seq := f.seq + 1
    new := true }

/-- A fence of `n` is asked for: one for all the faults of one fence time (R361). -/
def askFence (n : Nat) (byFault : Bool) (l : List (Nat × Bool)) : List (Nat × Bool) :=
  if l.any (fun q => q.1 = n) then l.map (fun q => if q.1 = n then (n, q.2 || byFault) else q) else l ++ [(n, byFault)]

/-- FAULT_REPORT: the oldest report is recorded, and its action asked for (R355, R361). -/
def State.takeReport (s : State) : State :=
  match s.flt.inbox with
  | [] => s
  | r :: rest =>
    let a := s.actionOf r
    let byFault := r.code != 0x0D
    let f := ({ s.flt with inbox := rest } : Flt).enter (r.record a s.flt.seq)
    { s with flt := { f with
      tileReq := if a = 2 ∧ !(s.tile r.tile).fenced then askFence r.tile byFault f.tileReq else f.tileReq
      engReq := if a = 1 ∧ (s.core r.tile).state ≠ .fenced then askFence r.tile byFault f.engReq else f.engReq } }

/-- FLT_LOGHEAD.clr (R371). -/
def State.clearLog (s : State) : State :=
  { s with flt := { s.flt with log := [], head := 0, wrapped := false, fresh := 0 } }

/-! ### Command fences (R355, R358–R360, R371) -/

/-- A write of 1 to an FLT_TFENCE bit of a tile that is not fenced. -/
def State.askTileFence (t : Nat) (s : State) : State :=
  if (s.tile t).fenced then s
  else s.report { Report.of 0x0D with tile := t, action := 2, detail := 1 }

/-- A write to an FLT_EFENCE bit: 1 fences, 0 releases. -/
def State.writeEfence (e : Nat) (v : Bool) (s : State) : State :=
  if v then
    (if (s.core e).state = .fenced then s
     else s.report { Report.of 0x0D with tile := e, action := 1, detail := 0 })
  else s.releaseEngine e

/-! ### The tile stall watchdog (R363, R364) -/

/-- The consumers of source `src` (0–47) at cluster `c` (R26). -/
def State.srcReaders (s : State) (t c src : Nat) : List Nat :=
  if src < 16 then s.cellReaders t c src else s.endReaders t c (src - 16)

/-- A token is offered on the source and not acknowledged (R363). -/
def State.stalled (s : State) (t c src : Nat) : Bool :=
  (s.srcRail t c src false).isTok && (s.srcReaders t c src).any (fun k => !(s.node k).ack)

/-- Word `i` of the watched-lane entries (R277). -/
def State.watch (s : State) (t i : Nat) : Nat := nfld (s.frame (frameAddr t 4 2)).toNat (32 * i) 32

/-- STALL_TRIP: watched lane `i` has been stalled for the limit while the tile runs (R363). -/
def State.tripStall (t i : Nat) (s : State) : State :=
  let x := s.tile t
  let w := s.watch t i
  let c := nfld w 0 10
  if x.stallEn && !x.tripped && s.live t && decide (0 < i) && w.testBit 31 && s.stalled t c (nfld w 10 6) then
    (s.modTile t (fun x => { x with tripped := true, stallLane := i })).report
      { Report.of 0x07 with
        tile := t, index := c, detail := word i, injected := s.wires.bpHeld.any (inTile t)
        action := if x.stallFence then 2 else 0 }
  else s

/-! ### Health (R366, R367) -/

/-- A tile, engine or bank is fenced now. -/
def State.degraded (s : State) : Bool :=
  (List.range 128).any (fun t => (s.tile t).fenced || (s.tile t).bankFenced || (s.core t).state == .fenced)

/-- SERVICE is in force: it is sticky (R366). -/
def Dev.service (d : Dev) : Bool := d.svcTiles || d.svcCfg || d.svcAnalog || d.svcBank || d.svcBoot

/-- DEV_HEALTH.state. -/
def State.health (s : State) : Nat := if s.dev.service then 2 else if s.degraded then 1 else 0

/-! ### The meanings -/

def execFaultReport (s : State) : Result := .next s.takeReport
def execLogheadClr (s : State) : Result := .next s.clearLog
def execStallTrip (t : TileId) (entry : Fin 64) (s : State) : Result := .next (s.tripStall t entry)

/-- TILE_WELT.cnt_clr (R365). -/
def execWeltCntClr (t : TileId) (s : State) : Result := .next (s.modTile t (fun x => { x with drained := 0 }))

end Sys2Proof.Machine
end

