-- ==== Sys2Proof/Machine/Power.lean ====
section
/-! DEFINITION. The governor, the regulator, and the supply and temperature monitors (R335–R345,
R350–R352), and the supply perturbations of PERT (R384). -/

namespace Sys2Proof.Machine

/-! ### Measured VCORE (R339, R351) -/

/-- `settled` shows whether the measured VCORE lies within 10 mV of the target (R351). -/
def Pwr.settle (p : Pwr) : Pwr :=
  { p with settled := decide (p.meas ≤ p.target + 10) && decide (p.target ≤ p.meas + 10) }

/-- A new measured value; PWR_VNOW shows no more than 1023 mV (log entry 52). -/
def Pwr.measure (mv : Nat) (p : Pwr) : Pwr := { p with meas := sat 1023 mv }.settle

/-- VCORE_WARNING: a falling crossing of warn, once the comparator has re-armed (R339). -/
def Pwr.warnAt (mv : Nat) (p : Pwr) : Pwr :=
  if p.warnArmed && decide (mv < p.warn) then { p.measure mv with vwarn := true, warnArmed := false } else p

/-- VCORE_WARNING_REARM: VCORE has risen above warn + 10 mV (R339). -/
def Pwr.rearmAt (mv : Nat) (p : Pwr) : Pwr :=
  if p.vcEn && decide (p.warn + 10 < mv) then { p.measure mv with warnArmed := true } else p

/-- VCORE_SETTLED: the measured VCORE comes within 10 mV of the target (R351). -/
def Pwr.settleAt (mv : Nat) (p : Pwr) : Pwr :=
  if p.vcEn && decide (mv ≤ p.target + 10) && decide (p.target ≤ mv + 10) then p.measure mv else p

/-! ### The target (R342–R344) -/

/-- The governor's step, in mV: up_step × 5, where 0 acts as 1 (R350). -/
def Pwr.step (p : Pwr) : Nat := 5 * (if p.upStep = 0 then 1 else p.upStep.toNat)

/-- The lowest and the highest target that the limits allow, in 5 mV steps (R342). -/
def Pwr.lo (p : Pwr) : Nat := (p.vmin + 4) / 5 * 5
def Pwr.hi (p : Pwr) : Nat := p.vmax / 5 * 5

/-- The target within vmin and vmax (R342). -/
def Pwr.limit (p : Pwr) (v : Nat) : Nat := if p.hi < v then p.hi else if v < p.lo then p.lo else v

/-- The target that the governor has last set: the one on its way to the regulator, or the one in force. -/
def Pwr.goal (p : Pwr) : Nat :=
  match p.vout with
  | some (t, _) => t
  | none => p.target

/-- The governor works: VCORE has arrived and the regulator is on PMBus (R335, R336). -/
def State.governs (s : State) : Bool :=
  s.pwr.vcEn && s.pwr.pmbusOk && (match s.cfg.boot with
    | .reset => false
    | .table => false
    | .vcore => false
    | .thermal => false
    | .off => false
    | _ => true)

/-- A changed target goes to the regulator as one VOUT_COMMAND (R342). -/
def Pwr.retarget (v : Nat) (p : Pwr) : Pwr :=
  if v = p.goal then p else { p with vout := some (v, false) }

/-- The pacers that the governor heeds (R344): running, with gov_excl = 0. -/
def State.eligible (s : State) : List Nat :=
  (List.range 64).filter (fun n =>
    let p := s.pacer n
    p.en && s.cfg.pacersStarted && p.held.isNone && !p.govExcl)

/-- The target that the mode's rule gives at a window end, and whether the budget is overrun (R343, R344). -/
def State.modeTarget (s : State) : Nat × Bool :=
  let p := s.pwr
  if p.mode = 0 then (p.vset, false)
  else if p.mode = 1 then
    if p.budget < p.pnow then (p.goal - p.step, decide (p.goal ≤ p.lo))
    else if 10 * p.pnow < 9 * p.budget ∧ p.goal < p.vset then (p.goal + 5, false)
    else (p.goal, false)
  else if p.mode = 2 then
    if p.calm && p.suspend == 0 && !s.eligible.isEmpty then (p.goal - 5, false) else (p.goal, false)
  else (p.goal, false)

/-- The target of this window end: temperature first, then limits, then the mode (R342). -/
def State.windowTarget (s : State) : Nat :=
  let p := s.pwr
  let v := p.limit s.modeTarget.1
  if (p.tlim : Int) < p.tj then p.goal - p.step
  else if p.thermHold ∧ p.goal < v then p.goal
  else v

/-! ### The estimate (R48, R345): energies in tenths of a femtojoule, powers in units of 0.1 nW -/

/-- The energy per token at a VCORE in mV (R48). -/
def tokenEnergy (mv : Nat) : Nat :=
  if mv = 550 then 90 else if mv = 650 then 129 else if mv = 750 then 171 else if mv = 850 then 220
  else if mv = 950 then 275 else Config.tokenEnergy mv

/-- `n` events of energy `e` at 0.85 V within 1 µs, scaled to VCORE (R345). -/
def scaled (n e mv : Nat) : Nat := n * e * mv ^ 2 / 850 ^ 2

/-- Which of the three rows of R345's table a tile's supply is in. -/
def Power.leaks : Power → Nat
  | .gated => 2
  | .retain => 1
  | .queued wasRetain => if wasRetain then 1 else 2
  | .on => 0
  | .gating _ => 0
  | .restoring _ => 0

/-- A tile's leakage (R345). -/
def leakage (k mv : Nat) (tj : Int) : Nat :=
  if mv = 550 ∧ tj = 25 then (if k = 0 then 20000000 else if k = 1 then 6000000 else 1200000)
  else if mv = 850 ∧ tj = 25 then (if k = 0 then 55000000 else if k = 1 then 6000000 else 1200000)
  else if mv = 850 ∧ tj = 85 then (if k = 0 then 234000000 else if k = 1 then 24000000 else 5000000)
  else Config.leakage k mv tj

/-- Instructions that core `c` has retired since the last sample. -/
def State.retiredNow (s : State) (c : Nat) : Nat :=
  let n := (s.core c).instret
  let a := SMap.read (fun _ => 0) s.pwr.instrAt c
  if a ≤ n then n - a else n

/-- What a tile's TILE_TOK.tok_rate reads (R49). -/
def Tile.rate (x : Tile) : Nat := if x.power.off || x.fenced then 0 else x.tokRate

/-- The estimate of R345 from the counts of the last µs, in units of 0.1 nW. -/
def State.estimate (s : State) : Nat :=
  let p := s.pwr
  let fabric := ((List.range 128).map (fun t => (s.tile t).rate)).sum * 256 * tokenEnergy p.meas
  let engines := scaled ((List.range 129).map s.retiredNow).sum 390000 p.meas
  let banks := scaled p.accesses 25000 p.meas
  let lace := scaled p.nodeOps 3000000 p.meas
  let tiles := ((List.range 128).map (fun t => leakage (s.tile t).power.leaks p.meas p.tj)).sum
  let edges := ((List.range 8).filter (fun n => s.ecRuns n)).length
  fabric + engines + banks + lace + tiles + 450000000 + 200000000 * b2n s.clk.rootLock + 150000000 * edges

/-- A sample of the estimate; the counts start again (R345). -/
def State.sampleEstimate (s : State) : State :=
  { s with pwr := { s.pwr with
    estSum := s.pwr.estSum + s.estimate, estN := s.pwr.estN + 1, accesses := 0, nodeOps := 0
    instrAt := (List.range 129).foldl (fun m c => SMap.write (fun _ => 0) m c (s.core c).instret) [] } }

/-- The mean of the window's samples, in 10 mW; a window without one keeps the reading before it (R345, R352;
log entry 86). -/
def Pwr.mean (p : Pwr) : Nat := if p.estN = 0 then p.pnow else sat 0xFFF (p.estSum / (p.estN * 10 ^ 8))

/-- The monitors' readings of a window (R345, R352). -/
def Pwr.readings (mv ps slow : Nat) (p : Pwr) : Pwr :=
  { p.measure mv with
    pnow := p.mean, pnowMax := max p.pnowMax p.mean, speedPs := sat 0xFFF ps, speedQ := slow
    estSum := 0, estN := 0 }

/-- GOVERNOR_WINDOW: readings, a mode written since the last window, the target, and a new window (R342). -/
def State.endGovWindow (s : State) (mv ps slow : Nat) : State :=
  let p0 := s.pwr.readings mv ps slow
  let p1 := { p0 with mode := p0.nextMode.getD p0.mode, nextMode := none }
  let s1 : State := { s with pwr := p1 }
  let p2 := if s1.governs then
      { p1.retarget s1.windowTarget with budgetOvr := p1.budgetOvr || s1.modeTarget.2 }
    else p1
  { s1 with pwr := { p2 with calm := true, suspend := p2.suspend - 1 } }

/-- GOVERNOR_SAMPLE: under PACE, a lead above half the depth or a new deficit raises the target at once
and suspends lowering, unless temperature limits, and a new window starts; the sample also tells whether the
window is calm (R344). -/
def State.govSample (s0 : State) : State :=
  let s := s0.sampleEstimate
  let p := s.pwr
  let busy := s.eligible.any (fun n => decide ((s.pacer n).depth / 2 < (s.pacer n).lead) || (s.pacer n).fresh)
  let still := s.eligible.all (fun n => (s.pacer n).lead == 0 && !(s.pacer n).fresh)
  let s1 := { s with pacers := SMap.mapVals Pacer.init (fun _ x => { x with fresh := false }) s.pacers }
  if !s.governs || p.mode != 2 then s1
  else if busy && !p.thermHold && !decide ((p.tlim : Int) < p.tj) then
    { s1 with pwr := { p.retarget (p.limit (p.goal + p.step)) with
      suspend := p.hold.toNat, calm := true, estSum := 0, estN := 0 } }
  else { s1 with pwr := { p with calm := p.calm && still } }

/-! ### PMBus (R337, R338) -/

/-- A transaction with the regulator (R337). -/
def Pwr.tx (p : Pwr) (code : Byte) (data : Option (BitVec 16)) : PmTx := { addr := p.pmAddr, pec := p.pec, code, data }

/-- VOUT_COMMAND's word for `mv`: round(V × 2^−N), with V in volts and N in two's complement (R337). -/
def voutWord (mv : Nat) (n : BitVec 5) : BitVec 16 :=
  let num := if n.getLsbD 4 then mv * 2 ^ (32 - n.toNat) else mv
  let den := if n.getLsbD 4 then 1000 else 1000 * 2 ^ n.toNat
  BitVec.ofNat 16 ((2 * num + den) / (2 * den))

/-- VOUT_COMMAND: accepted, repeated once, or given up with pm_err (R337). -/
def Pwr.voutDone (accepted : Bool) (p : Pwr) : Pwr :=
  match p.vout with
  | none => p
  | some (t, again) =>
    let q := { p with pmSent := [p.tx 0x21 (some (voutWord t p.voutN))] }
    if accepted then { q with target := t, vout := none }.settle
    else if again then { q with vout := none, pmErr := true }
    else { q with vout := some (t, true) }

/-- PM_ALERT: pm_alert is set at every falling edge. With a PMBus regulator, STATUS_WORD is read and stored, and
CLEAR_FAULTS follows it; the transaction that fails twice sets pm_err, a STATUS_WORD that fails being none (R336–R338). -/
def Pwr.alert (status : Option (BitVec 16)) (cleared : Bool) (p : Pwr) : Pwr :=
  if !p.pmbusOk then { p with pmAlert := true }
  else { p with
    pmAlert := true, pmStatus := status.getD p.pmStatus
    pmErr := p.pmErr || status.isNone || !cleared, pmSent := [p.tx 0x79 none, p.tx 0x03 none] }

/-! ### VAUX and the VCORE reset (R339) -/

/-- VAUX_WARNING: VAUX falls below 1.68 V, once the comparator has re-armed (R339). -/
def Pwr.auxFall (p : Pwr) : Pwr := if p.auxArmed then { p with auxwarn := true, auxArmed := false } else p

/-- A reading of VAUX in mV: the warning re-arms 20 mV above 1.68 V (R339, log entry 14). -/
def Pwr.auxAt (mv : Nat) (p : Pwr) : Pwr := { p with auxArmed := p.auxArmed || decide (1700 < mv) }

/-! ### Writes -/

/-- `v` rounded down to 5 mV. -/
def to5 (v : Nat) : Nat := v / 5 * 5
/-- `v` within `lo` and `hi`. -/
def clamp (lo hi v : Nat) : Nat := if v < lo then lo else if hi < v then hi else v

/-- A PWR_MODE write: a mode other than FIXED is refused without PMBus, the reserved one always; the mode
waits for the window end (R336, R342, R350). -/
def Pwr.writeMode (v : Word) (p : Pwr) : Pwr :=
  let m := fld v 0 2
  if m = 3 ∨ (m ≠ 0 ∧ !p.pmbusOk) then { p with cfgRej := true }
  else { p with
    nextMode := some (BitVec.ofNat 2 m), statIe := bitOf v 2, win := BitVec.ofNat 4 (fld v 4 4)
    upStep := BitVec.ofNat 4 (fld v 8 4), hold := BitVec.ofNat 4 (fld v 12 4) }

/-- A write of PWR_VLIM, PWR_WARN or PWR_TRIP (R339, R342, R352). -/
def Pwr.writeLimit (reg : LimitReg) (v : Word) (p : Pwr) : Pwr :=
  match reg with
  | .vlim =>
    if fld v 16 10 < fld v 0 10 then { p with cfgRej := true }
    else { p with vmin := clamp 550 950 (fld v 0 10), vmax := clamp 550 950 (fld v 16 10) }
  | .warn =>
    let w := to5 (clamp 450 600 (fld v 0 10))
    if w < p.trip + 20 then { p with cfgRej := true }
    else { p with warn := w, warnDg := sat 100 (fld v 16 7) }
  | .trip =>
    let t := to5 (clamp 420 500 (fld v 0 10))
    if p.warn < t + 20 then { p with cfgRej := true } else { p with trip := t }

/-- An update of the PWR block. -/
def State.modPwr (s : State) (f : Pwr → Pwr) : State := { s with pwr := f s.pwr }

/-! ### Temperature (R341, R342) -/

/-- The readings of the five sensors (R341, R342). -/
def Pwr.heat (tj : Int) (p : Pwr) : Pwr :=
  { p with
    tj := tj, tjMax := max p.tjMax tj
    therm := p.therm || decide ((p.tlim : Int) < tj)
    thermHold := decide ((p.tlim : Int) < tj) || (p.thermHold && decide ((p.tlim : Int) - p.hyst < tj))
    hot := decide (110 ≤ tj) }

/-! ### PERT (R383, R384) -/

/-- PERT is unlocked and may act (R383). -/
def State.pertOpen (s : State) : Bool :=
  decide (2 ≤ s.pert.key) && s.cfg.pertOk && !s.cfg.sessionLock && !Config.lockFuse

/-- PERT_SUPPLY bit 0: the warning comparator sees a fall, and re-arms after 2 µs (R384). -/
def State.pertVcore (s : State) : State :=
  if s.pertOpen && s.pert.en.getLsbD 5 && s.pwr.warnArmed then s.modPwr (fun p => { p with vwarn := true }) else s

/-- PERT_SUPPLY bit 1 (R384). -/
def State.pertVaux (s : State) : State :=
  if s.pertOpen && s.pert.en.getLsbD 5 then s.modPwr (fun p => { p with auxwarn := true }) else s

/-! ### The meanings -/

def execGovernorWindow (mv ps : Nat) (slow : Fin 4) (s : State) : Result := .next (s.endGovWindow mv ps slow)
def execGovernorSample (s : State) : Result := .next s.govSample
def execVoutCommand (accepted : Bool) (s : State) : Result := .next (s.modPwr (Pwr.voutDone accepted))
def execPmAlert (status : Option (BitVec 16)) (cleared : Bool) (s : State) : Result :=
  .next (s.modPwr (Pwr.alert status cleared))
def execVcoreWarning (mv : Nat) (s : State) : Result := .next (s.modPwr (Pwr.warnAt mv))
def execVcoreWarningRearm (mv : Nat) (s : State) : Result := .next (s.modPwr (Pwr.rearmAt mv))
def execVcoreSettled (mv : Nat) (s : State) : Result := .next (s.modPwr (Pwr.settleAt mv))
def execVauxWarning (s : State) : Result := .next (s.modPwr Pwr.auxFall)

/-- A VCCIO warning, ignored before RELEASE_OUTPUTS (R339), and its end (R253). -/
def execVccioWarning (b : Fin 12) (s : State) : Result :=
  .next (if s.pins.released then s.modPinBank b (fun x => { x with vccioWarn := true }) else s)
def execVccioWarningEnd (b : Fin 12) (s : State) : Result :=
  .next (s.modPinBank b (fun x => { x with vccioWarn := false }))

def execPwrModeWrite (v : Word) (s : State) : Result := .next (s.modPwr (Pwr.writeMode v))
def execPwrLimitWrite (reg : LimitReg) (v : Word) (s : State) : Result := .next (s.modPwr (Pwr.writeLimit reg v))

/-- PWR_PNOW.max_clr and PWR_TEMP.max_clr set the maximum to the present value (R352). -/
def execPnowMaxClr (s : State) : Result := .next (s.modPwr (fun p => { p with pnowMax := p.pnow }))
def execTempMaxClr (s : State) : Result := .next (s.modPwr (fun p => { p with tjMax := p.tj }))
def execPertSupplyVcore (s : State) : Result := .next s.pertVcore
def execPertSupplyVaux (s : State) : Result := .next s.pertVaux

end Sys2Proof.Machine
end

