-- ==== Sys2Proof/Machine/Image.lean ====
section
/-! DEFINITION. The bytes of an image: the boot table (R259, R261), records (R262–R273), and what the
loader reads from them before it acts. -/

namespace Sys2Proof.Machine

/-! ### The boot table (R259, R261) -/

/-- A boot table copy is valid: magic, version, reserved fields and values, and CRC (R259, R261). -/
def tableValid (b : List Byte) : Bool :=
  decide (b.length = 32) && le b 0 4 == 0x424B4741 && le b 4 2 == 1 && decide (le b 6 1 < 4) &&
  decide (le b 7 1 ≤ 4) &&
  (le b 8 4 == 0xFFFFFFFF || le b 8 4 % 4 == 0) && (le b 12 4 == 0xFFFFFFFF || le b 12 4 % 4 == 0) &&
  le b 16 1 % 4 != 3 && le b 16 1 / 4 % 4 == 0 && decide (le b 17 1 < 128) &&
  decide (le b 22 1 ≤ 15) && le b 23 5 == 0 && (crc32c (b.take 28)).toNat == le b 28 4

/-- What a valid copy says. -/
def tableOf (b : List Byte) : BootTable where
  pmbus := le b 6 1 % 2 == 1
  addr4 := le b 6 1 / 2 % 2 == 1
  clk := le b 7 1
  primary := word (le b 8 4)
  golden := word (le b 12 4)
  policy := le b 16 1 % 4
  attempts := if le b 16 1 / 16 = 0 then 1 else le b 16 1 / 16
  pmAddr := BitVec.ofNat 7 (le b 17 1)
  vcoreMv := clamp 800 950 (le b 18 2)
  wdogMs := BitVec.ofNat 16 (le b 20 2)
  retry := BitVec.ofNat 4 (le b 22 1)

/-- The images to try, in order: `true` is the golden one; an image with no offset is skipped (R286). -/
def BootTable.order (x : BootTable) : List Bool :=
  let p := if x.primary = 0xFFFFFFFF#32 then [] else List.replicate x.attempts false
  let g := if x.golden = 0xFFFFFFFF#32 then [] else List.replicate x.attempts true
  if x.policy = 0 then p ++ g else if x.policy = 1 then p else g

/-! ### The flash data lines (R256, R257) -/

/-- Bytes of a quad-SPI flash: two nibbles each on CF_D3–0, the high one first. -/
def quadBytes : List Byte → List Byte
  | h :: l :: r => BitVec.ofNat 8 (h.toNat % 16 * 16 + l.toNat % 16) :: quadBytes r
  | _ => []

/-- The bit on CF_D1. -/
def lineD1 (x : Byte) : Nat := b2n (x.getLsbD 1)

/-- Bytes of a single-bit flash: eight bits each on CF_D1, the most significant first. -/
def serialBytes : List Byte → List Byte
  | a :: b :: c :: d :: e :: f :: g :: h :: r =>
    BitVec.ofNat 8 (lineD1 a * 128 + lineD1 b * 64 + lineD1 c * 32 + lineD1 d * 16 + lineD1 e * 8 + lineD1 f * 4 +
      lineD1 g * 2 + lineD1 h) :: serialBytes r
  | _ => []

/-- The image bytes that the levels of CF_D7–0, one element for each CF_SCK cycle, give in the sampled
arrangement: two flashes give CF_D7 as the most significant bit (R256, R257). -/
def flashBytes (bootsel : Nat) (lines : List Byte) : List Byte :=
  if bootsel = 1 then lines else if bootsel = 2 then serialBytes lines else quadBytes lines

/-- The read command for image offset `x` (R256, R257). -/
def readCommand (bootsel x : Nat) (addr4 : Bool) (div : Nat) : FlashRead where
  cmd := if bootsel = 2 then (if addr4 then 0x13 else 0x03) else if addr4 then 0x6C else 0x6B
  addr := (if bootsel = 1 then x / 2 else x) % 2 ^ (if addr4 then 32 else 24)
  addrBytes := if addr4 then 4 else 3
  dummy := if bootsel = 2 then 0 else 8
  both := bootsel == 1
  div := div

/-! ### Records (R263, R264) -/

def recOp (b : List Byte) : Nat := le b 0 1
def recFlags (b : List Byte) : Nat := le b 1 1
/-- The bytes that follow the header. -/
def recLen (b : List Byte) : Nat := le b 2 2
def recOperand (b : List Byte) : Nat := le b 4 4
/-- The payload before the CRC. -/
def recBody (b : List Byte) : List Byte := slice b 8 (recLen b - 4)
/-- The CRC that ends every record but END. -/
def recCrc (b : List Byte) : Nat := le b (4 + recLen b) 4

def opHead : Nat := 0x01
def opFrame : Nat := 0x02
def opPacked : Nat := 0x03
def opDict : Nat := 0x04
def opStamp : Nat := 0x05
def opZero : Nat := 0x06
def opRegions : Nat := 0x07
def opSeq : Nat := 0x08
def opSigref : Nat := 0x09
def opQuince : Nat := 0x0A
def opAuth : Nat := 0x0B
def opEnd : Nat := 0x0F

/-- The opcodes of R264. -/
def opDefined (o : Nat) : Bool := (decide (1 ≤ o) && decide (o ≤ 0x0B)) || o == opEnd

/-- The length and the operand suit the opcode (R264, R272). -/
def recShape (b : List Byte) : Bool :=
  let o := recOp b
  let n := recLen b
  let v := recOperand b
  if o = opHead then n == 40
  else if o = opFrame then n == 260
  else if o = opPacked then decide (8 ≤ n) && decide (n ≤ 260)
  else if o = opDict then n == 260 && decide (v < 256)
  else if o = opStamp ∨ o = opZero then n == 12
  else if o = opRegions then n == 244 && v == 0
  else if o = opSeq then decide (1 ≤ v) && decide (v ≤ 16) && n == 4 * v + 4
  else if o = opSigref then decide (1 ≤ v) && decide (v ≤ 1024) && n == 8 * v + 4
  else if o = opQuince then decide (4 ≤ n) && v % 4 == 0 && decide (v + n ≤ 0x3C004)
  else if o = opAuth then n == 100 && v == 0
  else o == opEnd && n == 0

/-- A record that writes frames (R268). -/
def writesFrames (o : Nat) : Bool := o == opFrame || o == opPacked || o == opStamp || o == opZero

/-- The record may stand at its place (R263, R266, R319): the order, one of a kind, inside the image and
inside the bytes that the loader may read. -/
def ImageLoad.placed (l : ImageLoad) (b : List Byte) : Bool :=
  let o := recOp b
  let stop := l.offset + 8 + recLen b
  (o == opHead) == !l.head && (o == opAuth) == l.authNext &&
  (if l.head then decide (stop ≤ l.length) else decide (stop ≤ recOperand b)) &&
  (!l.partialImage || decide (stop ≤ l.avail)) &&
  (o != opRegions || (!l.partialImage && !l.regionsSeen && !l.frameSeen)) &&
  (o != opSeq || (!l.partialImage && !l.seqSeen)) && (o != opQuince || !l.partialImage) &&
  (o != opSigref || !l.sigrefSeen) && (o != opEnd || stop == l.length)

/-- The flash data lines were stuck for the record: its header reads as all zeros or all ones (R281,
log entry 22). -/
def stuckLines (b : List Byte) : Bool := (b.take 8).all (· = 0) || (b.take 8).all (· = 0xFF)

/-- The header shows an error: FLASH or FORMAT (R263, R264, R266, R281). -/
def ImageLoad.headerErr (l : ImageLoad) (b : List Byte) : Option Nat :=
  if stuckLines b && l.source == .flash then some 20
  else if recFlags b != 0 || recLen b % 4 != 0 || !opDefined (recOp b) || !recShape b || !l.placed b then
    some errFormat
  else none

/-! ### PACKED (R267) -/

/-- The bytes that codes produce until `m` are there, and what is left; `n` bounds the number of codes. -/
def unpackFrom : Nat → Nat → List Byte → Option (List Byte × List Byte)
  | 0, _, _ => none
  | n + 1, m, l =>
    if m = 0 then some ([], l)
    else match l with
      | [] => none
      | c :: r =>
        if c.toNat < 0x80 then
          let k := c.toNat + 1
          if m < k ∨ r.length < k then none
          else (unpackFrom n (m - k) (r.drop k)).map (fun x => (r.take k ++ x.1, x.2))
        else
          let k := c.toNat - 0x7F
          if m < k then none
          else (unpackFrom n (m - k) r).map (fun x => (List.replicate k (0 : Byte) ++ x.1, x.2))

/-- The 256 frame bytes of a PACKED payload, when it decodes. -/
def unpack (l : List Byte) : Option (List Byte) :=
  match unpackFrom 257 256 l with
  | some (d, pad) => if pad.all (· = 0) then some d else none
  | none => none

/-- The error of a reading that a retry may mend: CRC, or PACK when it does not decode (R263, R282). -/
def readErr (b : List Byte) : Option Nat :=
  if recOp b = opEnd then none
  else if recOp b = opPacked then
    match unpack (recBody b) with
    | none => some errPack
    | some d => if (crc32c (b.take 8 ++ d)).toNat = recCrc b then none else some errCrc
  else if (crc32c (b.take (4 + recLen b))).toNat = recCrc b then none else some errCrc

/-! ### HEAD (R265) -/

def headKind (b : List Byte) : Nat := le (recBody b) 6 1
def headOptions (b : List Byte) : Byte := BitVec.ofNat 8 (le (recBody b) 7 1)
def headMask (b : List Byte) : TileMask := BitVec.ofNat 128 (le (recBody b) 8 16)
def headFrames (b : List Byte) : Nat := le (recBody b) 0x18 4
def headRegion (b : List Byte) : Nat := le (recBody b) 0x20 1

/-- The first error of a HEAD record's payload (R265). A full image names all tiles and region 0; that a
partial load needs a partial image of its region is checked after (R310). -/
def headErr (partialLoad : Bool) (b : List Byte) : Option Nat :=
  let p := recBody b
  if le p 0 4 ≠ 0x494B4741 then some errMagic
  else if le p 4 2 ≠ 1 then some errVersion
  else if le p 0x1C 4 ≠ 0x4E510128 then some errDevice
  else if 1 < headKind b ∨ 8 ≤ (headOptions b).toNat ∨ le p 0x21 3 ≠ 0 then some errFormat
  else if !partialLoad && (headKind b != 0 || headMask b != BitVec.allOnes 128 || headRegion b != 0) then
    some errFormat
  else none

/-! ### REGIONS, SEQ and SIGREF (R269–R271, R288) -/

/-- The mask of region `r`, 1 to 15. -/
def regionMask (b : List Byte) (r : Nat) : TileMask := BitVec.ofNat 128 (le (recBody b) (16 * (r - 1)) 16)

/-- Two masks share a tile. -/
def masksClash (b : List Byte) : Bool :=
  (List.range 16).any (fun i => (List.range i).any (fun j =>
    decide (0 < j) && regionMask b i &&& regionMask b j != 0))

/-- The step words of a SEQ record. -/
def seqWords (b : List Byte) : List Word := (List.range (recOperand b)).map (fun i => word (le (recBody b) (4 * i) 4))

def stepCode (w : Word) : Nat := fld w 0 8

/-- A step word that R270 calls a FORMAT error. -/
def stepBad (w : Word) : Bool :=
  let c := stepCode w
  decide (9 < c) || (decide (c ≤ 6) && fld w 8 24 != 0) || (c == 7 && fld w 8 24 == 0) ||
    (c == 8 && decide (576 ≤ fld w 8 10)) || (c == 9 && (bitOf w 8 || fld w 24 8 != 0))

/-- The place of the first step with a code. -/
def stepAt (l : List Word) (c : Nat) : Nat := l.findIdx (fun w => stepCode w = c)

/-- The order of R288, given which regions are defined. -/
def seqOrderOk (l : List Word) (defined : Nat → Bool) : Bool :=
  ((List.range 6).all (fun c => (l.map stepCode).count (c + 1) == 1)) &&
  decide (stepAt l 1 < stepAt l 2) && decide (stepAt l 1 < stepAt l 6) && decide (stepAt l 3 < stepAt l 4) &&
  decide (stepAt l 3 < stepAt l 5) && decide (stepAt l 4 < stepAt l 6) &&
  (List.range l.length).all (fun i =>
    let w := l.getD i 0
    (stepCode w != 8 || decide (stepAt l 2 < i)) &&
    (stepCode w != 9 || (decide (stepAt l 4 < i) &&
      (List.range 15).all (fun r => !bitOf w (9 + r) || defined (r + 1)))))

/-- The error of a SEQ record. END is its last step and no other (R270). -/
def seqErr (b : List Byte) (defined : Nat → Bool) : Option Nat :=
  let l := seqWords b
  if l.any stepBad || (l.map stepCode).count 0 != 1 || stepCode (l.getD (l.length - 1) 0) != 0 then
    some errFormat
  else if !seqOrderOk l defined then some errSeqOrder else none

/-- The default order of R287. -/
def defaultSteps : List Word := [1, 3, 4, 5, 2, 6, 0]

def sigrefsOf (b : List Byte) : List SigRef := (List.range (recOperand b)).map (fun i =>
  { test := le (recBody b) (8 * i) 2, target := le (recBody b) (8 * i + 2) 2, sig := word (le (recBody b) (8 * i + 4) 4) })

/-! ### The watchdog's limit (R260, R283) -/

/-- The flash clock that a clk code gives at most, in MHz as a fraction (R259, R260). -/
def clkLimit (code : Nat) (single : Bool) : Nat × Nat :=
  let c := if single then min code 2 else code
  if c = 0 then (25, 2) else if c = 1 then (25, 1) else if c = 2 then (50, 1) else if c = 3 then (100, 1) else (400, 3)

/-- CF_SCK is ROOT / m with the smallest m that keeps the limit of the clk code (R259, R260). -/
def flashDiv (p : Pll) (code : Nat) (single : Bool) : Nat :=
  let (n, d) := clkLimit code single
  let unit := 2 ^ 24 * p.div
  (25 * p.vco * d + n * unit - 1) / (n * unit)

/-- CF_SCK in MHz as a fraction (R260). At ROOT = 1.2 GHz, code 4 counts as 133 MHz (R283). -/
def flashClock (p : Pll) (code : Nat) (single : Bool) : Nat × Nat :=
  let n := (clkLimit code single).1
  let root := 25 * p.vco
  let unit := 2 ^ 24 * p.div
  let m := flashDiv p code single
  if root = 1200 * unit ∧ n = 400 then (133, 1) else (root, unit * m)

/-- CF_SCK cycles per image byte in the sampled arrangement (R256, R283). -/
def cyclesPerByte (bootsel : Nat) : Nat := if bootsel = 1 then 1 else if bootsel = 2 then 8 else 2

/-- Twice the estimated load time, in ms, rounded up (R283, R298). -/
def twiceEstimate (flash : Option (Nat × Nat × Nat)) (bytes frames : Nat) : Nat :=
  match flash with
  | some (n, d, cpb) => (2 * (bytes * cpb * d * 1000 + frames * 400 * n) + n * 1000000 - 1) / (n * 1000000)
  | none => (2 * (frames * 400) + 999999) / 1000000

end Sys2Proof.Machine
end

