-- ==== Sys2Proof/Machine/Loader.lean ====
section
/-! DEFINITION. The loader: the clearing of a full load (R279), how a load ends (R284–R286, R311), frame
writes (R123, R275–R280), each record (R263–R274) and the verdict of END. -/

namespace Sys2Proof.Machine

/-! ### The clearing of a full load (R171, R186, R212, R279, R304, R360, R383) -/

/-- Locking PERT clears PERT_EN and cancels what is armed (R383). -/
def Pert.lock (p : Pert) : Pert := { p with key := 0, en := 0, laceArmed := none }

/-- TILE_CTRL, TILE_BANK, TILE_ECC and TILE_STALL at reset; the tile is powered, held and not fenced. -/
def Tile.cleared (t : Nat) (x : Tile) : Tile :=
  { Tile.init t with
    drained := x.drained, tokRate := x.tokRate, tokCount := x.tokCount, evt := x.evt
    timerCount := x.timerCount, timerPeriodic := x.timerPeriodic, timerReload := x.timerReload
    steal := x.steal, stealNearest := x.stealNearest, stealLast := x.stealLast }

/-- A Cobbler before START_ENGINES; Quince goes on. -/
def Core.cleared (c : Nat) (x : Core) : Core := if c = 128 then x else Core.init c

/-- PACE_CTRL, PACE_INC and PACE_LEAD at reset; nothing is issued. -/
def Pacer.cleared (n : Nat) (x : Pacer) : Pacer :=
  { Pacer.init n with
    count := x.count, deficits := x.deficits, deficit := x.deficit, debtOvf := x.debtOvf, cfgRej := x.cfgRej }

/-- SEAM_CFG and SEAM_GRP at reset; both sides are reset. -/
def Seam.cleared (i : Nat) (x : Seam) : Seam :=
  { Seam.init i with overrun := x.overrun, underrun := x.underrun, miss := x.miss, cfgRej := x.cfgRej, s3 := x.s3 }

/-- The PIN block at reset: the pad is in the reset row of R247. -/
def Pin.cleared (p : Nat) (x : Pin) : Pin :=
  { Pin.init p with
    board := x.board, kept := x.kept, seen := x.seen, sync1 := x.sync1, sync2 := x.sync2, level := x.level }

/-- A pin after a device reset: its registers at reset, PIN_IN among them; the board is as it was (R6, R254). -/
def Pin.afterReset (p : Nat) (x : Pin) : Pin := { Pin.init p with board := x.board, kept := x.kept }

/-- The bank registers at reset; VCCIO is as it was (R247). -/
def PinBank.cleared (b : Nat) (x : PinBank) : PinBank := { PinBank.init b with unpowered := x.unpowered }

/-- Lace at the start of a full load: descriptors at reset, no request, and links whole. -/
def Lace.cleared (l : Lace) : Lace :=
  { l with desc := [], reqs := [], waiters := [], adoptions := [], linkFail := 0 }

/-- What the loader holds about an image. -/
def Cfg.cleared (c : Cfg) : Cfg :=
  { c with
    regions := [], frames := [], sigrefs := [], steps := [], seqIndex := 0, seqCode := 0, seqPhase := .ready
    seqComplete := false, pinTmo := false, seqDone := 0, hasQuince := false, pacersStarted := false
    scrubAt := none, authOk := false, pertOk := false, doneBall := false
    load := none, cmds := [], tests := [] }

/-- The start of a full load (R279). Memory above the banks and local memories is Quince's. -/
def State.fullClear (s0 : State) : State :=
  let s := s0.clearClocks
  { s with
    mem := { cells := s.mem.cells.filter (fun p => 0x01200000 ≤ p.1)
             ecc := s.mem.ecc.filter (fun p => 0x480000 ≤ p.1) }
    memEpoch := s.memEpoch + 1
    cores := SMap.mapVals Core.init Core.cleared s.cores
    tiles := SMap.mapVals Tile.init Tile.cleared s.tiles
    wires := { nodes := [], turns := [], bpHeld := [], bpCount := 0, tokEnd := s.wires.tokEnd }
    pacers := SMap.mapVals Pacer.init Pacer.cleared s.pacers
    lace := s.lace.cleared
    tapQueue := []
    seams := SMap.mapVals Seam.init Seam.cleared s.seams
    pins := { s.pins with
      pins := SMap.mapVals Pin.init Pin.cleared s.pins.pins, released := false
      banks := SMap.mapVals PinBank.init PinBank.cleared s.pins.banks }
    cfg := s.cfg.cleared
    pwr := { s.pwr with powerQueue := [] }
    flt := { s.flt with tileReq := [], engReq := [] }
    bist := s.cutTests
    pert := s.pert.lock }

/-- Quince's private SRAM below the boot ROM's part is cleared (R272, R285). -/
def State.clearQsram (s : State) : State := s.clearWords qsramWord 0xF000

/-! ### Ends of a load -/

/-- The codes whose CFG_ERRADDR is a frame address (R297). -/
def isFrameCode (code : Nat) : Bool :=
  (decide (8 ≤ code) && decide (code ≤ 15)) || code == 17 || code == 21 || code == 22 || code == 25

/-- No loadable image is left (R286, R289, R366). -/
def State.noImage (s : State) : State :=
  { s with
    cfg := { s.cfg with boot := .stopped, status := 6, state := .failed, load := none }
    dev := { s.dev with svcBoot := true } }

/-- A full load fails (R285): one record, the error registers, the clearing of R279 with every pin in
the reset row, and Quince's SRAM; a failure after WAIT_LOCK also returns the clocks (R259). The next try
is another LOAD_ATTEMPT; a JTAG image has none (R258, log entry 23). -/
def State.failFull (l : ImageLoad) (code : Nat) (addr : Word) (inRetry : Bool) (s : State) : State :=
  let s1 := (s.setErr code addr (!isFrameCode code) inRetry l.golden false).report { Report.of 0x0A with
    inRetry := inRetry, golden := l.golden, action := 4, dev := true, index := code, detail := addr }
  let s2 := if s.cfg.boot = .sequence then s1.resetClocks else s1
  let s3 := s2.fullClear.clearQsram
  if l.source = .jtag then s3.noImage
  else { s3 with cfg := { s3.cfg with
    boot := .load, state := .boot, primaryFail := s3.cfg.primaryFail || !l.golden } }

/-- The load under way ends with an error at its present record, or at a frame address (R285, R297, R311). -/
def State.failLoad (code : Nat) (frame : Option Nat) (inRetry : Bool) (s : State) : State :=
  match s.cfg.load with
  | none => s
  | some l =>
    let addr := word (frame.getD l.offset)
    if l.partialImage then s.endPartial code addr (!isFrameCode code) inRetry .aborted
    else s.failFull l code addr inRetry

/-- The load that takes records: past its clearing and not yet at its verdict (R310). -/
def State.loading (s : State) : Option ImageLoad :=
  match s.cfg.load with
  | some l => if !l.verdict && l.cleared && (s.cfg.boot == .load || s.cfg.state == .loadingPartial) then some l else none
  | none => none

def State.setLoad (l : ImageLoad) (s : State) : State := { s with cfg := { s.cfg with load := some l } }
def State.modLoad (f : ImageLoad → ImageLoad) (s : State) : State :=
  { s with cfg := { s.cfg with load := s.cfg.load.map f } }

/-! ### Frame writes (R123, R275–R280) -/

/-- The first failed check of R280. -/
def State.frameErr (s : State) (l : ImageLoad) (f : Frame) (a : Nat) : Option Nat :=
  if !addrOk a then some errFrameAddr
  else if l.partialImage && (faKind a == 6 || (faKind a == 4 && faIndex a == 1) ||
      !l.mask.getLsbD (faTile a) || s.regionOf (faTile a) != l.region) then some errOutOfRegion
  else contentErr f a

/-- Byte `j` of a frame (R276). -/
def frameByte (f : Frame) (j : Nat) : Byte := BitVec.ofNat 8 (f.toNat >>> (8 * j))

/-- A frame stored in memory from word `wa` on, with fresh codes, by the mover (R104, R113, R123). -/
def State.writeWords (s : State) (wa : Nat) (f : Frame) : State :=
  (List.range 64).foldl (fun s w => s.moverWrite (wa + w) (frameWord f w)) s

/-- A TILECTL frame's copies in the TILE block (R277). -/
def State.copyTilectl (s : State) (t i : Nat) (f : Frame) : State :=
  let w := frameWord f 0
  if i = 0 then s.modTile t (fun x => { x with
    haltIe := bitOf w 4, retMode := bitOf w 5, autostart := bitOf w 6, tapEv := BitVec.ofNat 16 (fld w 16 16)
    fEn := bitOf (frameWord f 1) 0 })
  else if i = 2 then s.modTile t (fun x => { x with
    stallLimit := BitVec.ofNat 16 (fld w 0 16), stallEn := bitOf w 16, stallFence := bitOf w 17 })
  else if i = 3 then s.modTile t (fun x => { x with
    scrubEn := bitOf w 1, scrubPer := BitVec.ofNat 2 (fld w 2 2)
    patrol := if bitOf w 1 then x.patrol else { active := false, next := 0, per := 0 } })
  else s

/-- Pin `p` takes PIN_CFG and PIN_IRQ of its entry (R251, R252, R278). -/
def Pin.loadCfg (c q : Word) (x : Pin) : Pin :=
  { x with
    cfg := c, trig := BitVec.ofNat 3 (fld q 0 3), dg := BitVec.ofNat 8 (fld q 3 8)
    laneEn := bitOf q 12, tileEv := bitOf q 13 }

/-- Seam registers of a frame entry (R216, R219). -/
def Seam.loadCfg (c g : Word) (x : Seam) : Seam :=
  { x with
    cfg := c, pend := c, group := BitVec.ofNat 4 (fld g 0 4), errIe := bitOf g 27, tile := fld g 8 5
    tap := fld g 13 4, edgeBase := fld g 17 10 }

/-- Pacer registers of a frame entry (R91–R93, R278). -/
def Pacer.loadCfg (c inc lead : Word) (x : Pacer) : Pacer :=
  { x with
    en := bitOf c 0, ec := fld c 1 3, bank := bitOf c 4, deficitIe := bitOf c 5
    joinTile := BitVec.ofNat 5 (fld c 8 5), joinCluster := BitVec.ofNat 10 (fld c 13 10)
    govExcl := bitOf c 24, inc := inc, depth := fld lead 0 4 }

/-- A DEVICE frame written to its registers (R278). -/
def State.writeDevice (s : State) (i : Nat) (f : Frame) : State :=
  if i < 18 then (List.range 32).foldl (fun s e =>
    s.modPin (32 * i + e) (Pin.loadCfg (frameWord f (2 * e)) (frameWord f (2 * e + 1)))) s
  else if i < 26 then (List.range 32).foldl (fun s e =>
    s.modSeam (32 * (i - 18) + e) (Seam.loadCfg (frameWord f (2 * e)) (frameWord f (2 * e + 1)))) s
  else if i < 30 then (List.range 16).foldl (fun s e =>
    s.modPacer (16 * (i - 26) + e)
      (Pacer.loadCfg (frameWord f (4 * e)) (frameWord f (4 * e + 1)) (frameWord f (4 * e + 2)))) s
  else if i = 30 then { s with clk := { s.clk with frame30 := some f } }
  else if 32 ≤ i ∧ i < 37 then (List.range (if i = 36 then 64 else 128)).foldl (fun s m =>
    s.modPin (128 * (i - 32) + m) (fun x => { x with binding := BitVec.ofNat 16 (f.toNat >>> (16 * m)) })) s
  else s

/-- A checked frame is written (R123, R275, R277, R278). -/
def State.putFrame (s : State) (f : Frame) (a : Nat) : State :=
  let t := faTile a
  let k := faKind a
  let i := faIndex a
  if k = 2 then s.writeWords (bankWord t + 64 * i) f
  else if k = 3 then s.writeWords (localWord t + 64 * i) f
  else if k = 6 then s.writeDevice i f
  else if k = 4 then (s.setFrame a f).copyTilectl t i f
  else s.setFrame a f

/-- The engines of defined regions, which no region state lets run, are OFF (R126, R155, R287, R315). -/
def State.offDefined (s : State) : State :=
  ((List.range 128).filter (fun t => s.regionOf t ≠ 0)).foldl (fun s t =>
    s.modCore t (fun x => if x.state = .held then { x with state := .off } else x)) s

/-- From the first frame of a full load on, region 0 and every defined region read LOADING (R304). -/
def State.regionsLoading (s : State) : State :=
  ((List.range 16).foldl (fun s r =>
    if r = 0 ∨ (s.region r).mask ≠ 0 then s.modRegion r (fun g => { g with state := .loading }) else s) s).offDefined

/-- One frame write: checked, counted, and written (R268, R280, R301). `none` says that the load has
failed at it, so that nothing follows. -/
def State.writeFrame (f : Frame) (a : Nat) (s : State) : State × Bool :=
  match s.cfg.load with
  | none => (s, false)
  | some l =>
    match s.frameErr l f a with
    | some e => (s.failLoad e (some a) false, false)
    | none =>
      let s1 := if l.frameSeen || l.partialImage then s else s.regionsLoading
      let s2 := s1.modLoad (fun l => { l with frameSeen := true, written := l.written + 1 })
      (({ s2 with cfg := { s2.cfg with framesWritten := s2.cfg.framesWritten + 1 } } : State).putFrame f a, true)

/-- Several frame writes, up to the first failure. -/
def State.writeFrames (f : Frame) : List Nat → State → State × Bool
  | [], s => (s, true)
  | a :: r, s =>
    match s.writeFrame f a with
    | (s1, true) => s1.writeFrames f r
    | (s1, false) => (s1, false)

/-- The addresses of a STAMP or ZERO record (R268). -/
def stampAddrs (first count stride : Nat) : List Nat :=
  (List.range count).map (fun i => (first + i * stride) % 2 ^ 32)

/-! ### Binding checks (R206, R231) -/

/-- The first seam that breaks a condition of R206; of two in conflict, the second. -/
def State.firstSeamFault (s : State) : Option Nat :=
  (List.range 256).find? (fun i =>
    s.seamFault i (s.seam i).cfg (fun k => if k < i then [(s.seam k).cfg] else []))

/-- The first pin that breaks a condition of R231, and whether the failure lies in its binding entry. -/
def State.firstPinFault (s : State) : Option (Nat × Bool) :=
  (List.range 576).findSome? (fun p => (s.pinFault p).map (fun b => (p, b)))

/-- The error of the binding checks and the address of its DEVICE frame (R206, R231). -/
def State.bindingErr (s : State) : Option (Nat × Nat) :=
  match s.firstSeamFault with
  | some i => some (errSeamMap, frameAddr 0 6 (18 + i / 32))
  | none =>
    match s.firstPinFault with
    | some (p, true) => some (errPinMap, frameAddr 0 6 (32 + p / 128))
    | some (p, false) => some (errPinMap, frameAddr 0 6 (p / 32))
    | none => none

/-! ### The verdict of END (R274, R289, R304, R376) -/

/-- TILECTL frame 3 says that the tile is powered (R277). -/
def State.tilePowerBit (s : State) (t : Nat) : Bool := (s.frame (frameAddr t 4 3)).toNat.testBit 0

/-- The region's state at a passing END: EMPTY when no tile of a defined region is powered, FENCED when
one of its tiles is fenced, else HELD (R304, R312). -/
def State.heldState (s : State) (r : Nat) : RegionState :=
  let ts := s.regionTiles r
  if ts.any (fun t => (s.tile t).fenced) then .fenced
  else if r ≠ 0 ∧ ts.all (fun t => !s.tilePowerBit t) then .empty
  else .held

/-- The tests that TILECTL frame 3 asks for, tile by tile in the order of R376. -/
def State.startupTests (s : State) : List (Nat × Nat) :=
  (List.range 128).flatMap (fun t =>
    let f := (s.frame (frameAddr t 4 3)).toNat
    (if f.testBit 8 then [(t, testLogic)] else []) ++ (if f.testBit 9 then [(t, testBank)] else []) ++
    (if f.testBit 10 then [(t, testLocal)] else []))

/-- The first test of each tile that has one starts (R376). -/
def State.startTests (s : State) : State :=
  (List.range 128).foldl (fun s t =>
    match s.cfg.tests.find? (fun q => q.1 = t) with
    | some q => { s with bist := { s.bist with
        startup := SMap.write AwlRun.none s.bist.startup t (AwlRun.start q.2 t) } }
    | none => s) s

/-- Boot ROM step 7 begins (R287, R289). -/
def State.startSequence (s : State) : State :=
  { s with cfg := { s.cfg with
    boot := .sequence, status := 4, state := .sequence, seqPhase := .ready, seqDone := 0, seqIndex := 0
    steps := if s.cfg.steps = [] then defaultSteps else s.cfg.steps } }

/-- A full image has passed: regions read HELD, seams are reset with their new configuration, the pins that
tiles of HELD regions own follow rcfg, and the start-up tests or the sequence follow (R212, R248, R289, R304). -/
def State.passFull (l : ImageLoad) (s : State) : State :=
  let s1 := (List.range 16).foldl (fun s r =>
    if r = 0 ∨ (s.region r).mask ≠ 0 then s.modRegion r (fun g => { g with state := s.heldState r }) else s) s
  let s2 : State := (List.range 128).foldl (fun (s : State) (t : Nat) => s.containTilePins t)
    s1.offDefined.resetAllSeams
  let s3 : State := { s2 with cfg := { s2.cfg with
    authOk := bitOf l.options 0, tests := s2.startupTests, loaded := true } }
  if s3.cfg.tests = [] then s3.startSequence
  else { s3 with cfg := { s3.cfg with boot := .tests } }.startTests

/-- A partial image has passed: its region reads HELD (R310, R313, R321, R322). -/
def State.passPartial (l : ImageLoad) (s : State) : State :=
  let s1 := s.modRegion l.region (fun g => { g with state := .held, loads := g.loads + 1 })
  ({ s1 with cfg := { s1.cfg with load := none, state := .done } } : State).commandDone l.region

/-- The checks after AUTH, and the verdict. -/
def State.passLoad (l : ImageLoad) (s : State) : State :=
  if l.partialImage then s.passPartial l
  else match s.bindingErr with
    | some (e, a) => s.failLoad e (some a) false
    | none => (s.modLoad (fun l => { l with verdict := true })).passFull l

/-! ### Records (R263–R274) -/

/-- The record has been taken: the offset, the image CRC and the signed message go on (R273, R274). -/
def ImageLoad.take (b : List Byte) (l : ImageLoad) : ImageLoad :=
  { l with
    offset := l.offset + b.length, retry := none
    crc := word (crcRun l.crc.toNat b)
    msg := if bitOf l.options 0 && recOp b != opAuth then l.msg ++ b else l.msg }

/-- The state after a record that was processed. -/
def State.taken (b : List Byte) (s : State) : State := s.modLoad (ImageLoad.take b)

/-- The HEAD record (R265, R283, R310). -/
def State.takeHead (l : ImageLoad) (b : List Byte) (s : State) : State :=
  match headErr l.partialImage b with
  | some e => s.failLoad e none false
  | none =>
    let r := headRegion b
    if l.partialImage && (headKind b != 1 || r != s.loadRegion || headMask b != (s.region r).mask) then
      s.failLoad errOutOfRegion (some 0) false
    else
      let flash := if l.source = .memory then none
        else
          let (n, d) := flashClock s.clk.now (match s.cfg.table with | some x => x.clk | none => 0)
            (s.cfg.bootsel = 2)
          some (n, d, cyclesPerByte s.cfg.bootsel.toNat)
      let est := twiceEstimate flash (recOperand b) (headFrames b)
      let s1 := (s.setLoad { l with
        head := true, options := headOptions b, authNext := bitOf (headOptions b) 0
        region := r, mask := headMask b, frames := headFrames b, length := recOperand b }).taken b
      if l.source = .jtag then s1
      else { s1 with cfg := { s1.cfg with wdogEff := max s1.cfg.wdogEff est } }

/-- The frames of a STAMP or ZERO record; a count of 0 or a field that must be zero is FORMAT, an empty
slot DICT (R264, R268). -/
def State.takeStamp (l : ImageLoad) (b : List Byte) (s : State) : State :=
  let p := recBody b
  let stamp := recOp b = opStamp
  let count := if stamp then le p 2 2 else le p 0 2
  let blank := if stamp then le p 1 1 else le p 2 2
  if count = 0 ∨ blank ≠ 0 then s.failLoad errFormat none false
  else
    let addrs := stampAddrs (recOperand b) count (le p 4 4)
    let slot := if stamp then (l.dict.find? (fun q => q.1 = le p 0 1)).map (·.2) else some (0 : Frame)
    match slot with
    | none => s.failLoad errDict (some (recOperand b)) false
    | some f => match s.writeFrames f addrs with
      | (s1, true) => s1.taken b
      | (s1, false) => s1

/-- A frame of a FRAME or PACKED record. -/
def State.takeFrame (b bytes : List Byte) (s : State) : State :=
  match s.writeFrame (frameOfBytes bytes) (recOperand b) with
  | (s1, true) => s1.taken b
  | (s1, false) => s1

/-- REGIONS (R269, R303). -/
def State.takeRegions (b : List Byte) (s : State) : State :=
  if masksClash b then s.failLoad errRegionMap none false
  else
    ((List.range 15).foldl (fun (s : State) i =>
      s.setRegion (i + 1) { Region.init 0 with mask := regionMask b (i + 1) }) s).modLoad
      (fun l => { l.take b with regionsSeen := true })

/-- SEQ (R270, R288). -/
def State.takeSeq (b : List Byte) (s : State) : State :=
  match seqErr b (fun r => (s.region r).mask != 0) with
  | some e => s.failLoad e none false
  | none => ({ s with cfg := { s.cfg with steps := seqWords b } } : State).modLoad
      (fun l => { l.take b with seqSeen := true })

/-- SIGREF (R271). A partial image's entries come before the ones that the device holds. -/
def State.takeSigref (b : List Byte) (s : State) : State :=
  ({ s with cfg := { s.cfg with sigrefs := sigrefsOf b ++ s.cfg.sigrefs } } : State).modLoad
    (fun l => { l.take b with sigrefSeen := true })

/-- QUINCE (R272): the SRAM below the boot ROM's part is cleared before the first one. -/
def State.takeQuince (l : ImageLoad) (b : List Byte) (s : State) : State :=
  let s1 := if l.qsramCleared then s else s.clearQsram
  let p := recBody b
  let s2 := (List.range (p.length / 4)).foldl (fun (s : State) i =>
    let wa := qsramWord + recOperand b / 4 + i
    (s.putWord wa 15 (word (le p (4 * i) 4))).setEcc wa none) s1
  ({ s2 with cfg := { s2.cfg with hasQuince := true } } : State).modLoad
    (fun l => { l.take b with qsramCleared := true })

/-- AUTH (R273). -/
def State.takeAuth (b : List Byte) (s : State) : State :=
  s.modLoad (fun l => { l.take b with
    authNext := false, key := slice (recBody b) 0 32, sig := slice (recBody b) 32 64 })

/-- END (R273, R274): image CRC, count, AUTH, bindings. -/
def State.takeEnd (l : ImageLoad) (b : List Byte) (s : State) : State :=
  if crcRun l.crc.toNat (b.take 4) ^^^ 0xFFFFFFFF ≠ recOperand b then s.failLoad errImageCrc none false
  else if l.written ≠ l.frames then s.failLoad errCount none false
  else if !bitOf l.options 0 && Config.fuseDigest != 0 then s.failLoad errAuth none false
  else if bitOf l.options 0 then s.modLoad (fun l => { l with verdict := true, msg := l.msg ++ b, retry := none })
  else s.passLoad l

/-- A record that has been read right takes its effect. -/
def State.process (l : ImageLoad) (b : List Byte) (s : State) : State :=
  let o := recOp b
  if o = opHead then s.takeHead l b
  else if o = opFrame then s.takeFrame b (recBody b)
  else if o = opPacked then s.takeFrame b ((unpack (recBody b)).getD [])
  else if o = opDict then
    (s.setLoad { l with dict := SMap.insert (SMap.erase l.dict (recOperand b)) (recOperand b) (frameOfBytes (recBody b)) }).taken b
  else if o = opStamp ∨ o = opZero then s.takeStamp l b
  else if o = opRegions then s.takeRegions b
  else if o = opSeq then s.takeSeq b
  else if o = opSigref then s.takeSigref b
  else if o = opQuince then s.takeQuince l b
  else if o = opAuth then s.takeAuth b
  else s.takeEnd l b

/-- A reading fails its CRC or does not decode: a retry follows while the limit allows one, which a JTAG
stream never does (R258, R282, R299). -/
def State.badReading (l : ImageLoad) (code spent : Nat) (b : List Byte) (s : State) : State :=
  let limit := if s.cfg.retryLimit = 0 then 1 else s.cfg.retryLimit.toNat
  let frame := if code = errPack then some (recOperand b) else none
  if l.source = .jtag ∨ limit ≤ spent then s.failLoad code frame false
  else s.modLoad (fun l => { l with retry := some spent })

/-- The flash is given a read command for image offset `x`, with the table's address form and clock (R256, R259,
R260, R282). -/
def State.readFlash (x : Nat) (s : State) : State :=
  let addr4 := match s.cfg.table with | some b => b.addr4 | none => false
  let clk := match s.cfg.table with | some b => b.clk | none => 0
  { s with cfg := { s.cfg with flash := some (readCommand s.cfg.bootsel.toNat x addr4
      (flashDiv s.clk.now clk (s.cfg.bootsel = 2))) } }

/-- `n` words of memory from word `wa` on, read by the mover: their bytes, and whether none gave an error
(R113–R115, R117, R318). -/
def State.moverBytes (wa : Nat) : Nat → State → List Byte × Bool × State
  | 0, s => ([], true, s)
  | n + 1, s =>
    match s.moverRead wa with
    | (.data d, s1) =>
      let (b, ok, s2) := s1.moverBytes (wa + 1) n
      ([byteOf d 0, byteOf d 1, byteOf d 2, byteOf d 3] ++ b, ok, s2)
    | (.err _, s1) =>
      let (b, _, s2) := s1.moverBytes (wa + 1) n
      ([0, 0, 0, 0] ++ b, false, s2)

/-- One reading of the record at the present offset, and whether the source gave it without an error. Flash: what
the data lines show. JTAG: the front of the input buffer, once the record is there. Memory: the header, and the
rest of the record when the header is right; nothing beyond CFG_PLEN is read (R257, R258, R318, R319). -/
def State.reading (s : State) (l : ImageLoad) (lines : List Byte) : List Byte × Bool × State :=
  match l.source with
  | .flash => (flashBytes s.cfg.bootsel.toNat lines, true, s)
  | .jtag => (s.cfg.jtagBuf.take (8 + recLen s.cfg.jtagBuf), true, s)
  | .memory =>
    if l.avail < l.offset + 8 then (List.replicate 8 0, true, s)
    else
      let wa := (l.base + l.offset) / 4
      let (h, ok, s1) := s.moverBytes wa 2
      if !ok || (l.headerErr h).isSome then (h, ok, s1)
      else
        let (b, ok2, s2) := s1.moverBytes (wa + 2) (recLen h / 4)
        (h ++ b, ok2, s2)

/-- The JTAG buffer gives up the bytes of a record. -/
def State.drain (l : ImageLoad) (b : List Byte) (s : State) : State :=
  if l.source = .jtag then { s with cfg := { s.cfg with jtagBuf := s.cfg.jtagBuf.drop b.length } } else s

/-- One reading of the record at the present offset, `spent` retries having gone before: the source's error,
header, CRC and decoding, then its effect. -/
def State.readRecord (l : ImageLoad) (spent : Nat) (b : List Byte) (ok : Bool) (s : State) : State :=
  match (if ok then l.headerErr b else none) with
  | some e => s.failLoad e none false
  | none =>
    if !ok then s.badReading l errCrc spent b
    else if b.length ≠ 8 + recLen b then s
    else match readErr b with
      | some e => s.badReading l e spent b
      | none => (s.drain l b).process l b

/-- A record arrives: it is the one that the command names, or one that has no name (R263, R264). -/
def State.record (op : Nat) (lines : List Byte) (s : State) : State :=
  match s.loading with
  | none => s
  | some l =>
    let (b, ok, s1) := s.reading l lines
    if l.retry.isSome || b.length < 8 || (opDefined (recOp b) && recOp b != op) then s
    else s1.readRecord l 0 b ok

/-- RECORD_RETRY: the record is read again, from flash by a new read command at its offset (R282). -/
def State.retryRecord (lines : List Byte) (s : State) : State :=
  match s.loading with
  | none => s
  | some l =>
    match l.retry with
    | none => s
    | some n =>
      let s0 := if l.source = .flash then s.readFlash (l.base + l.offset) else s
      let (b, ok, s1) := s0.reading l lines
      if b.length < 8 then s
      else ({ s1 with cfg := { s1.cfg with retryCount := sat 0xFFFF (s1.cfg.retryCount + 1) } } : State).readRecord
        l (n + 1) b ok

/-- AUTH_VERDICT (R273, R274): the fused key, then the signature. -/
def State.authVerdict (s : State) : State :=
  match s.cfg.load with
  | none => s
  | some l =>
    if !l.verdict || !(s.cfg.boot == .load || s.cfg.state == .loadingPartial) then s
    else
      let keyOk := Config.fuseDigest == 0 || Crypto.keyDigest l.key == Config.fuseDigest
      if keyOk && Crypto.verifies l.key l.sig l.msg then s.passLoad l
      else s.failLoad errAuth none false

/-- LOAD_WATCHDOG_EXPIRY: a retry in progress is cancelled (R283, R284). The watchdog does not run for
JTAG, and stops at the verdict. -/
def State.loadWatchdog (s : State) : State :=
  match s.cfg.load with
  | none => s
  | some l =>
    if l.source = .jtag ∨ !l.cleared ∨ !(s.cfg.boot == .load || s.cfg.state == .loadingPartial) then s
    else s.failLoad errWdog none l.retry.isSome

/-! ### Starting a load (R258, R265, R283, R286, R289) -/

/-- A load before its first byte. -/
def ImageLoad.begin (src : Source) (partialImage golden : Bool) (base avail : Nat) : ImageLoad where
  source := src
  partialImage := partialImage
  golden := golden
  head := false
  authNext := false
  options := 0
  region := 0
  mask := 0
  frames := 0
  length := 0
  offset := 0
  crc := 0xFFFFFFFF
  written := 0
  dict := []
  regionsSeen := false
  frameSeen := false
  seqSeen := false
  sigrefSeen := false
  qsramCleared := false
  key := []
  sig := []
  msg := []
  retry := none
  verdict := false
  base := base
  avail := avail
  cleared := !partialImage

/-- The limit of CFG_WDOG (R283, R298). -/
def Cfg.wdogLimit (c : Cfg) : Nat := if c.wdogMs = 0 then 1 else c.wdogMs.toNat

/-- The image offset of the primary or the golden image (R259). -/
def Cfg.imageAt (c : Cfg) (golden : Bool) : Nat :=
  match c.table with
  | some b => (if golden then b.golden else b.primary).toNat
  | none => 0

/-- A full load starts: the clearing of R279, then the first byte, which a flash gives from the image's offset on
(R257, R259). -/
def State.startFull (src : Source) (golden : Bool) (s : State) : State :=
  let s0 := s.fullClear
  let x := if src = .flash then s0.cfg.imageAt golden else 0
  let s1 := if src = .flash then s0.readFlash x else s0
  { s1 with cfg := { s1.cfg with
    boot := .load, state := .loadingFull, status := if golden then 3 else 2, golden := false
    load := some (ImageLoad.begin src false golden x 0)
    wdogEff := if src = .jtag then s1.cfg.wdogEff else s1.cfg.wdogLimit } }

/-- LOAD_ATTEMPT: the next image of the try policy, or none is left (R286, R289). With BOOTSEL = 11 the
device waits for CFG_LOAD (R258). -/
def State.loadAttempt (s : State) : State :=
  if s.cfg.boot ≠ .load ∨ s.cfg.load.isSome ∨ s.cfg.bootsel = 3 then s
  else match s.cfg.tries with
    | [] => s.noImage
    | g :: r => ({ s with cfg := { s.cfg with tries := r } } : State).startFull .flash g

/-- A load over JTAG may start: at STATUS 2 with BOOTSEL = 11, or from DONE or FAILED (R258). -/
def State.jtagMayLoad (s : State) : Bool :=
  (s.cfg.boot == .load && s.cfg.load.isNone && s.cfg.bootsel == 3) ||
  s.cfg.state == .done || s.cfg.state == .failed

/-- CFG_LOAD starts a full load; after the start-up sequence, the clocks return first (R258, R259). -/
def State.startJtag (s : State) : State :=
  let s1 := if s.cfg.state = .done then s.resetClocks else s
  { s1.startFull .jtag false with cfg := { (s1.startFull .jtag false).cfg with jtagBuf := [] } }

/-- Bytes of the input buffer in use. A record longer than the buffer leaves it as it comes (R258, R263, log
entry 29). -/
def jtagUse (b : List Byte) : Nat := if 4096 < 8 + recLen b then b.length - (8 + recLen b) else b.length

/-- A byte shifted under CFG_LOAD: into the buffer, or lost, which ends the load with FORMAT (R258). -/
def State.jtagByte (b : Byte) (s : State) : State :=
  match s.loading with
  | none => s
  | some l =>
    if s.jtag.ir ≠ .cfgLoad ∨ l.source ≠ .jtag then s
    else if 4096 ≤ jtagUse s.cfg.jtagBuf then s.failLoad errFormat none false
    else { s with cfg := { s.cfg with jtagBuf := s.cfg.jtagBuf ++ [b] } }

/-- The status byte of a Capture-DR of CFG_LOAD (R258). -/
def State.cfgCapture (s : State) : State :=
  if s.jtag.ir ≠ .cfgLoad then s
  else
    let v := BitVec.ofNat 8 (b2n (decide (jtagUse s.cfg.jtagBuf + 1024 ≤ 4096)) +
      atBit (s.cfg.state == .done) 1 + atBit (s.cfg.state == .failed) 2)
    { s with
      cfg := { s.cfg with jtagStatus := v }
      jtag := { s.jtag with capture := BitVec.ofNat 1788 v.toNat } }

/-! ### The meanings -/

def execLoadAttempt (s : State) : Result := .next s.loadAttempt
def execHead (lines : List Byte) (s : State) : Result := .next (s.record opHead lines)
def execFrame (lines : List Byte) (s : State) : Result := .next (s.record opFrame lines)
def execPacked (lines : List Byte) (s : State) : Result := .next (s.record opPacked lines)
def execDict (lines : List Byte) (s : State) : Result := .next (s.record opDict lines)
def execStamp (lines : List Byte) (s : State) : Result := .next (s.record opStamp lines)
def execZero (lines : List Byte) (s : State) : Result := .next (s.record opZero lines)
def execRegions (lines : List Byte) (s : State) : Result := .next (s.record opRegions lines)
def execSeq (lines : List Byte) (s : State) : Result := .next (s.record opSeq lines)
def execSigref (lines : List Byte) (s : State) : Result := .next (s.record opSigref lines)
def execQuince (lines : List Byte) (s : State) : Result := .next (s.record opQuince lines)
def execAuth (lines : List Byte) (s : State) : Result := .next (s.record opAuth lines)
def execEndRecord (lines : List Byte) (s : State) : Result := .next (s.record opEnd lines)
def execAuthVerdict (s : State) : Result := .next s.authVerdict
def execRecordRetry (lines : List Byte) (s : State) : Result := .next (s.retryRecord lines)
def execLoadWatchdogExpiry (s : State) : Result := .next s.loadWatchdog
def execJtagImageByte (b : Byte) (s : State) : Result := .next (s.jtagByte b)
def execCfgLoadCapture (s : State) : Result := .next s.cfgCapture

/-- CFG_CTRL.err_clr (R294). -/
def execErrClr (s : State) : Result := .next (s.setErr 0 0 false false false false)

end Sys2Proof.Machine
end

