-- ==== Sys2Proof/Machine/Regions.lean ====
section
/-! DEFINITION. Partial reconfiguration: the four commands of CFG_PCMD, what LOADING does to a region,
and how a release and a clear end (chapter 11). -/

namespace Sys2Proof.Machine

/-! ### LOADING (R306, R316) -/

/-- The queues whose base lies in a bank of one of the tiles: their waiters end with FAULT and they are
empty (R316). Only a queue with a ring has a base in a bank. -/
def State.emptyQueues (s : State) (tiles : List Nat) : State :=
  let qs := ((s.lace.desc.map (fun (p : Nat × Word) => p.1 / 4)).dedup).filter (fun q =>
    s.qKind q != 3 && tiles.contains (s.ringBase q / 0x20000))
  qs.foldl (fun s q => s.setEnds q 0 0 false)
    (s.endWaiters (fun w => qs.contains w.queue) (some 7))

/-- The frames of a tile that LOADING clears: CLUSTER, SPINE and TILECTL 0, 2 and 3 (R306). -/
def clearedFrame (t a : Nat) : Bool :=
  faTile a == t && (faKind a == 0 || faKind a == 1 || (faKind a == 4 && faIndex a != 1))

/-- TILE_CTRL, TILE_BANK and TILE_ECC at reset (R306). -/
def Tile.reloaded (x : Tile) : Tile :=
  { x with
    haltIe := false, retMode := false, autostart := false, tapEv := 0, fEn := false, collCnt := 0
    bankCe := 0, localCe := 0, bankUe1s := 0, bankFenced := false, ue := false, scrubEn := true, scrubPer := 0 }

/-- One tile of region `r`, which enters LOADING (R89, R173, R183, R212, R234, R248, R306, R373). -/
def State.loadTile (r t : Nat) (s : State) : State :=
  let s1 := ((s.forcePower t).liftFences t).detachTile t
  let s2 := ((s1.resetPinSeamsF t).holdTile t).holdPacers r t
  let s3 := { s2 with cfg := { s2.cfg with frames := s2.cfg.frames.filter (fun p => !clearedFrame t p.1) } }
  (s3.modTile t Tile.reloaded).startClear t false

/-- A region enters LOADING (R306, R316). -/
def State.enterLoading (r : Nat) (s : State) : State :=
  let ts := s.regionTiles r
  (ts.foldl (fun s t => s.loadTile r t) (s.modRegion r (fun g => { g with state := .loading }))).emptyQueues ts

/-! ### Commands (R305, R318, R319) -/

/-- The range of a load from memory is valid (R318). -/
def State.sourceOk (s : State) (r : Nat) : Bool :=
  let a := s.cfg.psrc.toNat
  let n := s.cfg.plen.toNat
  a % 4 == 0 && n % 4 == 0 &&
  ((decide (a + n ≤ 0x1000000) && (s.regionTiles r).all (fun t =>
      decide (a + n ≤ 0x20000 * t) || decide (0x20000 * (t + 1) ≤ a))) ||
   (decide (0x0F000000 ≤ a) && decide (a + n ≤ 0x0F03C000)))

/-- The states from which a command is accepted (R305). -/
def RegionCmd.from : RegionCmd → RegionState → Bool
  | .load, .loading => false
  | .load, _ => true
  | .release, .held => true
  | .release, _ => false
  | .clear, .held => true
  | .clear, .running => true
  | .clear, .aborted => true
  | .clear, .fenced => true
  | .clear, _ => false

/-- A load, release or clear of region CFG_PREG.region is accepted (R305). -/
def State.accepts (s : State) (k : RegionCmd) : Bool :=
  let r := s.cfg.preg.toNat
  s.cfg.state == .done && r != 0 && (s.region r).mask != 0 && k.from (s.region r).state &&
  (List.range 16).all (fun q => q == r || (s.region q).state != .loading) &&
  (k != .load || (s.cfg.plen != 0 && (!s.cfg.pcmdSrc || s.sourceOk r)))

/-- A refused command changes nothing and sets rej (R305). -/
def State.rejectCmd (s : State) : State := { s with cfg := { s.cfg with pcmdRej := true } }

/-- The command is in progress; one in progress on the same region ends with it. -/
def State.command (k : RegionCmd) (s : State) : State :=
  let r := s.cfg.preg.toNat
  { s with cfg := { s.cfg with cmds := s.cfg.cmds.filter (fun c => c.2 ≠ r) ++ [(k, r)] } }

/-- load: LOADING, then the image that CFG_PSRC and CFG_PLEN describe (R305). -/
def State.regionLoad (s : State) : State :=
  if s.accepts .load then
    let s0 := (s.command .load).enterLoading s.cfg.preg.toNat
    let s1 := if s.cfg.pcmdSrc then s0 else s0.readFlash s.cfg.psrc.toNat
    { s1 with cfg := { s1.cfg with
      state := .loadingPartial
      load := some (ImageLoad.begin (if s.cfg.pcmdSrc then .memory else .flash) true false
        s.cfg.psrc.toNat s.cfg.plen.toNat) } }
  else s.rejectCmd

/-- abort: accepted while the partial image of the region streams (R305, R311). -/
def State.regionAbort (s : State) : State :=
  match s.cfg.load with
  | some l =>
    if l.partialImage && l.cleared && s.commanded .load s.cfg.preg.toNat then s.abortPartial .aborted
    else s.rejectCmd
  | none => s.rejectCmd

/-- release (R305, R314). -/
def State.regionRelease (s : State) : State :=
  if s.accepts .release then s.command .release else s.rejectCmd

/-- clear: LOADING, then every tile is gated (R305). -/
def State.regionClear (s : State) : State :=
  if s.accepts .clear then (s.command .clear).enterLoading s.cfg.preg.toNat else s.rejectCmd

/-! ### Ends (R310, R313, R314) -/

/-- The memories of the region's tiles are clear. -/
def State.tilesCleared (r : Nat) (s : State) : State :=
  (s.regionTiles r).foldl (fun s t => s.modTile t (fun x => { x with clearing := false })) s

/-- LOADING_CLEARED: the first image byte is read, and the watchdog starts (R283, R310). -/
def State.loadingCleared (r : Nat) (s : State) : State :=
  match s.cfg.load with
  | some l =>
    if l.partialImage && !l.cleared && s.commanded .load r then
      let s1 := (s.tilesCleared r).setLoad { l with cleared := true }
      { s1 with cfg := { s1.cfg with framesWritten := 0, wdogEff := s1.cfg.wdogLimit } }
    else s
  | none => s

/-- A tile is gated at once, in the mode of ret_mode, as RELEASE_SR, a release and a clear do (R287, R314,
R346). -/
def State.gateNow (t : Nat) (s : State) : State :=
  if (s.tile t).fenced ∨ (s.tile t).power ≠ .on then s else (s.startGate t (s.tile t).retMode).removePower t

/-- A Cobbler of a powered tile starts, or goes to HALTED (R126, R314). -/
def State.launch (t : Nat) (s : State) : State :=
  if (s.core t).state = .fenced ∨ (s.tile t).power ≠ .on then s
  else if (s.tile t).autostart then s.startEngine t
  else s.modCore t (fun x => { x with state := .halted })

/-- The steps of R314 over every tile of region `r`. -/
def State.releaseTiles (r : Nat) (s : State) : State :=
  let ts := s.regionTiles r
  let s1 := ts.foldl (fun s t => if s.tilePowerBit t then s else s.gateNow t) s
  let s2 := ts.foldl (fun s t => s.placeTile t) s1
  let s3 := ts.foldl (fun s t => s.enableTile t) s2
  let s4 := ts.foldl (fun s t => s.launch t) s3
  let s5 := s4.unholdPacers r
  ts.foldl (fun s t => if (s.tile t).power = .on then s.uncontainTilePins t else s) s5

/-- A release of region `r` is under way: by command, or by the start-up step (R287, R321). -/
def State.releasing (s : State) (r : Nat) : Bool :=
  s.commanded .release r || (match s.cfg.seqPhase with
    | .regions left => left.contains r
    | _ => false)

/-- RELEASE_COMPLETE: the region runs (R314). -/
def State.releaseComplete (r : Nat) (s : State) : State :=
  if s.releasing r ∧ (s.region r).state = .held then
    let s1 := (s.releaseTiles r).modRegion r (fun g => { g with state := .running })
    if s.commanded .release r then s1.commandDone r else s1
  else s

/-- CLEAR_COMPLETE: every tile is gated, and the region is EMPTY (R304, R305). -/
def State.clearComplete (r : Nat) (s : State) : State :=
  if s.commanded .clear r then
    let s1 := (s.regionTiles r).foldl (fun s t => s.gateNow t) (s.tilesCleared r)
    (s1.modRegion r (fun g => { g with state := .empty })).commandDone r
  else s

/-! ### The meanings -/

def execRegionLoad (s : State) : Result := .next s.regionLoad
def execRegionAbort (s : State) : Result := .next s.regionAbort
def execRegionRelease (s : State) : Result := .next s.regionRelease
def execRegionClear (s : State) : Result := .next s.regionClear
def execLoadingCleared (r : RegionId) (s : State) : Result := .next (s.loadingCleared r)
def execReleaseComplete (r : RegionId) (s : State) : Result := .next (s.releaseComplete r)
def execClearComplete (r : RegionId) (s : State) : Result := .next (s.clearComplete r)

end Sys2Proof.Machine
end

