-- ==== Sys2Proof/Machine/Sequence.lean ====
section
/-! DEFINITION. The start-up sequence (R33, R85, R126, R197, R247, R287, R300). -/

namespace Sys2Proof.Machine

/-- The HK cycles that span `us` microseconds: at ROOT / D7, or at 25 MHz while EC7 runs from XIN (R196, R197,
R224, R287). -/
def State.hkCycles (s : State) (us : Nat) : Nat :=
  if s.clk.rootLock then
    let d := 2 ^ 24 * s.clk.now.div * ((s.ec 7).div.toNat + 1)
    (us * 25 * s.clk.now.vco + d - 1) / d
  else us * 25

/-- The tiles of region 0 that have power. -/
def State.staticTiles (s : State) : List Nat := (s.regionTiles 0).filter (fun t => (s.tile t).power = .on)

/-- The step in progress has completed; the next may begin (R287, R300). -/
def State.stepDone (s : State) : State :=
  { s with cfg := { s.cfg with
    seqPhase := .ready, seqDone := s.cfg.seqDone ||| BitVec.ofNat 10 (2 ^ s.cfg.seqCode) } }

/-- The step waits. -/
def State.phase1 (p : SeqPhase) (s : State) : State := { s with cfg := { s.cfg with seqPhase := p } }

/-- RELEASE_SR: tiles whose TILECTL power bit is 0 are gated, and tokens placed in region 0 (R33, R287). -/
def State.releaseSr (s : State) : State :=
  let s1 := (List.range 128).foldl (fun s t => if s.tilePowerBit t then s else s.gateNow t) s
  (s1.staticTiles.foldl (fun s t => s.placeTile t) s1).phase1 .placing

/-- START_ENGINES (R126): region 0 starts; an engine of a defined region stays OFF, or runs as its release has
started it. -/
def State.startEngines (s : State) : State :=
  (s.staticTiles.foldl (fun s t => s.launch t) s).offDefined

/-- END: DONE, STATUS 5, what the image permits, and Quince's firmware (R265, R287, R289, R290, R294). -/
def State.sequenceEnd (s : State) : State :=
  let l := s.cfg.load.getD (ImageLoad.begin .flash false false 0 0)
  let s1 : State := { s with cfg := { s.cfg with
    boot := .done, status := 5, doneBall := true, state := .done, seqPhase := .finished, seqComplete := true
    seqDone := s.cfg.seqDone ||| 1, golden := l.golden, goldenNext := false, load := none
    pertOk := bitOf l.options 2, sessionLock := s.cfg.sessionLock || bitOf l.options 1
    scrubEn := true } }
  if s.cfg.hasQuince then
    ({ s1 with quince := { s1.quince with firmware := true } } : State).modCore 128
      (fun x => { x with pc := 0x0F000000#32, fetchEpoch := s1.memEpoch })
  else s1

/-- A step of the list begins (R270, R287). -/
def State.beginStep (w : Word) (s : State) : State :=
  let c := stepCode w
  if c = 0 then s.sequenceEnd
  else if c = 1 then s.applyClocks.phase1 .waitLock
  else if c = 2 then s.releaseOutputs.stepDone
  else if c = 3 then s.releaseSr
  else if c = 4 then (s.staticTiles.foldl (fun s t => s.enableTile t) s).phase1 .enabling
  else if c = 5 then s.startEngines.stepDone
  else if c = 6 then s.startPacers.stepDone
  else if c = 7 then s.phase1 (.delay (s.hkCycles (fld w 8 24)))
  else if c = 8 then s.phase1 (.waitPin (fld w 8 10) (bitOf w 18) (fld w 19 13 != 0))
  else s.phase1 (.regions ((List.range 15).filterMap (fun r => if bitOf w (9 + r) then some (r + 1) else none)))

/-- SEQ_STEP (R287, R300). -/
def State.seqStep (s : State) : State :=
  if s.cfg.boot ≠ .sequence ∨ s.cfg.seqPhase ≠ .ready then s
  else
    let i := if s.cfg.seqDone = 0 then 0 else s.cfg.seqIndex + 1
    let w := s.cfg.steps.getD i 0
    ({ s with cfg := { s.cfg with seqIndex := i, seqCode := stepCode w } } : State).beginStep w

/-- The pin seams fix the depth of their synchronisers by the clocks now in force (R211, R215, R234). -/
def State.settlePinSeams (s : State) : State :=
  s.pins.pins.foldl (fun s (p : Nat × Pin) =>
    if pcMode p.2.cfg = 2 ∨ pcMode p.2.cfg = 3 then s.modPin p.1 (fun x => { x with psS3 := s.ecFast (pcEc x.cfg) })
    else s) s

/-- SEQ_STEP_COMPLETE: a step that takes time has completed (R197, R287, R304). A region that a
RELEASE_REGIONS step names and that is not HELD has nothing to wait for (log entry 25). -/
def State.seqStepComplete (s : State) : State :=
  if s.cfg.boot ≠ .sequence then s
  else match s.cfg.seqPhase with
    | .waitLock => if s.allLocked then s.settlePinSeams.stepDone else s
    | .placing =>
      let s1 := s.modRegion 0 (fun g => { g with state := if g.state = .fenced then .fenced else .running })
      ((s1.regionTiles 0).foldl (fun s t => if s.tileAway t then s else s.uncontainTilePins t) s1).stepDone
    | .enabling => s.stepDone
    | .regions l => if l.all (fun r => (s.region r).state != .held) then s.stepDone else s
    | _ => s

/-- WAIT_LOCK_TIMEOUT: the load fails with LOCK (R287). -/
def State.lockTimeout (s : State) : State :=
  match s.cfg.seqPhase with
  | .waitLock => s.failLoad errLock none false
  | _ => s

/-- DELAY_EXPIRY (R287). -/
def State.delayExpiry (s : State) : State :=
  match s.cfg.seqPhase with
  | .delay _ => s.stepDone
  | _ => s

/-- The level waited for stands behind the pin's synchroniser (R243, R287). -/
def State.waitedLevel (s : State) : State :=
  match s.cfg.seqPhase with
  | .waitPin p v _ => if (s.pin p).sync2 = v then s.stepDone else s
  | _ => s

/-- WAIT_PIN_MATCH: what the board drives, and the step completes if the level after the synchroniser is the
one waited for (R243, R287). -/
def State.waitPinMatch (ball : Option Bool) (s : State) : State :=
  match s.cfg.seqPhase with
  | .waitPin p _ _ => (s.modPin (s.pairPin p) (fun x => { x with board := ball })).waitedLevel
  | _ => s

/-- WAIT_PIN_TIMEOUT (R287, R300). -/
def State.waitPinTimeout (s : State) : State :=
  match s.cfg.seqPhase with
  | .waitPin _ _ true => { s.stepDone with cfg := { s.stepDone.cfg with pinTmo := true } }
  | _ => s

/-! ### The meanings -/

def execSeqStep (s : State) : Result := .next s.seqStep
def execSeqStepComplete (s : State) : Result := .next s.seqStepComplete
def execWaitLockTimeout (s : State) : Result := .next s.lockTimeout
def execDelayExpiry (s : State) : Result := .next s.delayExpiry
def execWaitPinMatch (ball : Option Bool) (s : State) : Result := .next (s.waitPinMatch ball)
def execWaitPinTimeout (s : State) : Result := .next s.waitPinTimeout

end Sys2Proof.Machine
end

