-- ==== Sys2Proof/Machine/Boot.lean ====
section
/-! DEFINITION. Resets and the boot ROM's steps 1 to 4: the reset commands (R247, R323, R334, R339, R341,
R366, R397), the start-up self-test (R376), the boot table (R259, R261, R337), VCORE (R335) and reload
(R289). -/

namespace Sys2Proof.Machine

/-! ### Device resets -/

/-- What FLT keeps through a device reset other than power-on reset (R357, R371). -/
def Flt.afterReset (f : Flt) : Flt :=
  { Flt.init with
    log := f.log, head := f.head, wrapped := f.wrapped, count := f.count, seq := f.seq }

/-- What DEV_HEALTH keeps through a device reset other than power-on reset and RESET_N (R366). -/
def Dev.afterReset (d : Dev) : Dev :=
  { Dev.init with
    svcTiles := d.svcTiles, svcCfg := d.svcCfg, svcAnalog := d.svcAnalog, svcBank := d.svcBank
    svcBoot := d.svcBoot, tilesTotal := d.tilesTotal, cfgUeTotal := d.cfgUeTotal
    enginesTotal := d.enginesTotal }

/-- The test of a background run's key. -/
def bgOf (k : Nat) : BgTest :=
  if k < 128 then .bank (Fin.ofNat 128 k) else if k < 256 then .localMem (Fin.ofNat 128 (k - 128))
  else if k = 256 then .qsram else .analog

/-- What a background pass that did not pass does (R380). -/
def State.bgFailed (b : BgTest) (r : AwlRun) (result : Nat) (s : State) : State :=
  let s1 : State := { s with bist := { s.bist with bgFail := true, bgTest := r.test, bgTarget := r.target } }
  match b with
  | .bank t => if result = 2 then
      (if (s1.tile t).bankFenced then s1 else s1.fenceBank t).report (bistReport r result 3)
    else s1.report (bistReport r result 0)
  | .localMem _ => s1.report (bistReport r result (if result = 2 then 1 else 0))
  | .qsram => s1.report (bistReport r result 0)
  | .analog => ({ s1 with dev := { s1.dev with svcAnalog := true } } : State).report (bistReport r result 0)

/-- A background pass ends with its result (R373, R380). -/
def State.endBackground (b : BgTest) (r : AwlRun) (s : State) : State :=
  let result := r.result (s.refOf r.test r.target)
  if result = 1 then s else s.bgFailed b r result

/-- A device reset cuts the tests on demand and in the background short; their records stay (R355, R373). -/
def State.resetTests (s : State) : State :=
  let s1 := match s.bist.demand with
    | some r => if r.result (s.demandRef r) = 1 then s else s.report (bistReport r (r.result (s.demandRef r)) 0)
    | none => s
  s.bist.background.foldl (fun s p => s.endBackground (bgOf p.1) p.2) s1

/-- The device is held in reset by a thermal trip or by VAON (R334, R341). -/
def State.inReset (s : State) : Bool := s.cfg.boot == .thermal || s.cfg.boot == .off

/-- A device reset with its cause, PWR_STAT.last_reset (R351): every register returns to its reset value,
Quince's SRAM is cleared, every pin goes to the reset row, and BOOTSEL and PULLSEL are sampled. Awl's tests are
cut short, and a fault that had been detected still writes its record. -/
def State.deviceReset (cause : Nat) (x : Straps) (s : State) : State :=
  let sT := s.resetTests
  let s0 := sT.flt.inbox.foldl (fun (s : State) (_ : Report) => s.takeReport) sT
  { State.reset with
    pending := s.pending
    freeCtr := s.freeCtr
    pins := { Pins.init with
      pins := SMap.mapVals Pin.init Pin.afterReset s.pins.pins, pullsel := x.pullsel }
    cfg := { Cfg.init with bootsel := x.bootsel, pullsel := x.pullsel }
    pwr := { Pwr.init with lastReset := cause }
    flt := if cause = 0 then Flt.init else s0.flt.afterReset
    dev := if cause = 0 ∨ cause = 1 then Dev.init else sT.dev.afterReset
    jtag := if cause = 0 then Jtag.init else s.jtag }

/-- The device stays in reset: nothing runs. -/
def State.holdReset (b : BootStep) (s : State) : State :=
  { s with cfg := { s.cfg with boot := b }, quince := { s.quince with stopped := true } }

/-- A reset of a device that is not held in reset already. -/
def State.resetBy (cause : Nat) (x : Straps) (s : State) : State :=
  if s.inReset then s else s.deviceReset cause x

/-- RESET_N: recognised while a thermal trip holds the device too, which then stays in reset (R341, R366, R397). -/
def State.resetPin (x : Straps) (s : State) : State :=
  if s.cfg.boot = .off then s
  else if s.cfg.boot = .thermal then (s.deviceReset 1 x).holdReset .thermal
  else s.deviceReset 1 x

/-- VAON falls below 0.70 V: power-on reset holds (R334). -/
def State.vaonFall (s : State) : State :=
  (s.deviceReset 0 { bootsel := s.cfg.bootsel, pullsel := s.pins.pullsel }).holdReset .off

/-! ### Temperature (R341) -/

/-- The second of two consecutive readings at or above 110 °C is a thermal trip. -/
def State.tempReading (tj : Int) (s : State) : State :=
  if s.cfg.boot = .off then s
  else if s.pwr.hot ∧ 110 ≤ tj ∧ s.cfg.boot ≠ .thermal then
    (s.deviceReset 4 { bootsel := s.cfg.bootsel, pullsel := s.pins.pullsel }).holdReset .thermal
  else s.modPwr (Pwr.heat tj)

/-- After a thermal trip, 100 °C or less lets the device restart from boot ROM step 1. -/
def State.thermalRestart (tj : Int) (x : Straps) (s : State) : State :=
  if s.cfg.boot = .thermal ∧ tj ≤ 100 then (s.deviceReset 4 x).modPwr (Pwr.heat tj) else s

/-! ### Steps 1 and 2 (R289, R376) -/

/-- Step 1 is over: the RESET record and STATUS 1 (R289, R355, R356). -/
def State.bootStep1 (s : State) : State :=
  if s.cfg.boot = .reset ∧ s.cfg.status = 0 then
    ({ s with cfg := { s.cfg with status := 1, state := .boot } } : State).report { Report.of 0x0F with
      action := 6, dev := true, detail := word s.pwr.lastReset }
  else s

/-- STATUS 7: a start-up failure stops the boot (R289, R335, R366). -/
def State.bootFail (s : State) : State :=
  { s with
    cfg := { s.cfg with boot := .stopped, status := 7, state := .failed }
    dev := { s.dev with svcBoot := true } }

/-- The verdict of check `n`; a bank without VCCIO is skipped and given verdict 1 (R375). -/
def checkVerdict (verdicts : BitVec 29) (skipped : BitVec 12) (n : Nat) : Bool :=
  verdicts.getLsbD n || (decide (17 ≤ n) && skipped.getLsbD (n - 17))

/-- BIST_LOG word `n` (R375). -/
def checkLog (v : Bool) (code : BitVec 16) (skip : Bool) : BitVec 18 :=
  BitVec.ofNat 18 (code.toNat + atBit v 16 + atBit skip 17)

/-- The run of ANALOG_STARTUP that these verdicts make (R372, R374). -/
def startupRun (verdicts : BitVec 29) (skipped : BitVec 12) : AwlRun :=
  (List.range 29).foldl (fun r n => r.fold (b2n (checkVerdict verdicts skipped n))) (AwlRun.start testStartup 255)

/-- The BIST_LOG words of ANALOG_STARTUP. -/
def startupLog (verdicts : BitVec 29) (codes : List (BitVec 16)) (skipped : BitVec 12) : SMap (BitVec 18) :=
  (List.range 29).foldl (fun m n => SMap.write (fun _ => (0 : BitVec 18)) m n
    (checkLog (checkVerdict verdicts skipped n) (codes.getD n 0)
      (decide (17 ≤ n) && skipped.getLsbD (n - 17)))) []

/-- ANALOG_STARTUP ends; a bank that it skipped has no VCCIO (R247, R289, R374–R376). -/
def State.analogStartup (verdicts : BitVec 29) (codes : List (BitVec 16)) (skipped : BitVec 12) (s : State) : State :=
  if s.cfg.boot ≠ .reset then s
  else
    let r := startupRun verdicts skipped
    let ref := some (passSignature testStartup)
    let s1 := s.bootStep1
    let s2 : State := { s1 with
      bist := { s1.bist.ended r ref with log := startupLog verdicts codes skipped }
      pins := { s1.pins with banks := (List.range 12).foldl (fun m b => SMap.write PinBank.init m b
        { SMap.read PinBank.init m b with unpowered := skipped.getLsbD b }) s1.pins.banks } }
    if r.result ref = 1 then { s2 with cfg := { s2.cfg with boot := .table } } else s2.bootFail

/-! ### Step 3 (R256, R259, R261, R337) -/

/-- The first valid copy, and whether it is the backup (R261). -/
def chosenTable (main backup : List Byte) : Option (BootTable × Bool) :=
  if tableValid main then some (tableOf main, false)
  else if tableValid backup then some (tableOf backup, true)
  else none

/-- VOUT_MODE is linear: its exponent (R337). -/
def linearMode (v : Option Byte) : Option (BitVec 5) :=
  match v with
  | some m => if fld m 5 3 = 0 then some (BitVec.ofNat 5 (fld m 0 5)) else none
  | none => none

/-- The regulator is programmed (R335–R337, R352): VOUT_MODE answered with `vmode`, and the writes that
follow were `accepted`. -/
def Pwr.program (x : BootTable) (vmode : Option Byte) (accepted : Bool) (p : Pwr) : Pwr :=
  let q := { p with pmAddr := x.pmAddr }
  match linearMode vmode with
  | none => { q with pmErr := p.pmErr || vmode.isNone, pmSent := [q.tx 0x20 none] }
  | some n =>
    let r := { q with
      voutN := n, pmSent := [q.tx 0x20 none, q.tx 0x27 (some 0x000A), q.tx 0x21 (some (voutWord x.vcoreMv n))] }
    if accepted then { r with pmbusOk := true } else { r with pmErr := true }

/-- VC_EN rises, with a target in mV (R335). -/
def Pwr.raiseVc (mv : Nat) (p : Pwr) : Pwr := { p with vcEn := true, target := mv, vset := to5 mv }.settle

/-- The flash reads of the boot table, at ROOT/96 with 3-byte addresses: offset 0, then the backup copy when that
one is not valid; none with BOOTSEL = 11 (R258, R259, R261). -/
def tableRead (bootsel : Nat) (main : List Byte) : Option FlashRead :=
  if bootsel = 3 then none
  else some (readCommand bootsel (if tableValid main then 0 else 0x1000) false 96)

/-- BOOT_TABLE_READ: `main` and `backup` are the levels of the flash data lines while either copy is read; the
second read takes place when the first copy is not valid (R257, R258, R261). -/
def State.readTable (main backup : List Byte) (vmode : Option Byte) (accepted : Bool) (s : State) : State :=
  if s.cfg.boot ≠ .table then s
  else
    let b := s.cfg.bootsel.toNat
    let found := if b = 3 then none else chosenTable (flashBytes b main) (flashBytes b backup)
    let p := match found with
      | some (x, _) => if x.pmbus then s.pwr.program x vmode accepted else s.pwr
      | none => s.pwr
    let mv := match found with
      | some (x, _) => if p.pmbusOk then x.vcoreMv else 850
      | none => 850
    { s with
      cfg := { s.cfg with
        flash := tableRead b (flashBytes b main), boot := .vcore, table := found.map (·.1), tableOk := found.isSome
        backup := (match found with | some (_, b) => b | none => false), pmbusOk := p.pmbusOk }
      pwr := p.raiseVc mv }

/-! ### Step 4 (R258, R259, R286, R289, R294) -/

/-- CFG_WDOG, CFG_RETRY and the try policy from the table; golden_next asks for the golden image alone. -/
def Cfg.applyTable (x : BootTable) (c : Cfg) : Cfg :=
  { c with
    wdogMs := if x.wdogMs = 0 then c.wdogMs else x.wdogMs
    retryLimit := if x.retry = 0 then c.retryLimit else x.retry
    tries := if c.goldenNext then ({ x with policy := 2 } : BootTable).order else x.order
    boot := .load }

/-- Boot ROM step 4; without a valid copy the load error BOOT_TABLE and STATUS 6 (R281, R289). -/
def State.step4 (s : State) : State :=
  if s.cfg.bootsel = 3 then
    { s with cfg := { s.cfg with boot := .load, status := 2, state := .boot, tries := [] } }
  else match s.cfg.table with
    | some x => { s with cfg := { s.cfg.applyTable x with status := 1, state := .boot } }
    | none => ((s.setErr 1 0 true false false false).report { Report.of 0x0A with
        action := 4, dev := true, index := 1 }).noImage

/-- VCORE has arrived: within 25 mV of its target (R335). The warning comparator is armed (R339). -/
def State.vcoreArrives (mv : Nat) (s : State) : State :=
  if s.cfg.boot = .vcore ∧ mv ≤ s.pwr.target + 25 ∧ s.pwr.target ≤ mv + 25 then
    (s.modPwr (fun p => { p.measure mv with warnArmed := true })).step4
  else s

/-- VCORE does not arrive (R335). -/
def State.vcoreMissing (s : State) : State := if s.cfg.boot = .vcore then s.bootFail else s

/-! ### Reload (R259, R289, R311) -/

/-- A reload is possible once VCORE has arrived. -/
def State.mayReload (s : State) : Bool :=
  s.pwr.vcEn && (match s.cfg.boot with
    | .load => true
    | .tests => true
    | .sequence => true
    | .done => true
    | .stopped => true
    | _ => false)

/-- Quince goes back to the boot ROM, its registers and memory as they are; firmware has not started. -/
def State.quinceToRom (s : State) : State :=
  ({ s with quince := { s.quince with firmware := false, stopped := false } } : State).modCore 128 (fun x =>
    { x with pc := 0x0FFF8000#32, wait := none, load := none, fetchEpoch := s.memEpoch })

/-- Every block off VAON is reset (R24, R289). -/
def State.resetOffVaon (s : State) : State :=
  { s with
    tiles := []
    pacers := []
    lace := Lace.init
    seams := []
    clk := { Clk.init with xinStopped := s.clk.xinStopped } }

/-- RELOAD: a partial load ends with ABORTED; step 4 follows. -/
def State.reload (s : State) : State :=
  if s.mayReload then
    let s1 := match s.cfg.load with
      | some l => if l.partialImage then s.abortPartial .aborted else s
      | none => s
    ((s1.fullClear.resetOffVaon.startLock Pll.init).quinceToRom).step4
  else s

/-! ### The meanings -/

def execPowerOnReset (x : Straps) (s : State) : Result := .next (s.deviceReset 0 x)
def execResetN (x : Straps) (s : State) : Result := .next (s.resetPin x)

/-- A reading that is below PWR_TRIP.trip resets; one of VAUX that is below 1.62 V resets, and a higher one is
what re-arms the VAUX warning (R339, log entry 14). -/
def execVcoreReset (reading : Nat × Straps) (s : State) : Result :=
  .next (if s.pwr.vcEn ∧ reading.1 < s.pwr.trip then s.resetBy 2 reading.2 else s)
def execVauxReset (reading : Nat × Straps) (s : State) : Result :=
  .next (if reading.1 < 1620 then s.resetBy 3 reading.2 else s.modPwr (Pwr.auxAt reading.1))
def execVaonFall (s : State) : Result := .next s.vaonFall

/-- tj is the highest reading (R341). -/
def execTempReading (s0 s1 s2 s3 s4 : Int) (s : State) : Result :=
  .next (s.tempReading (max s0 (max s1 (max s2 (max s3 s4)))))

def execThermalRestart (tj : Int) (x : Straps) (s : State) : Result :=
  .next (s.thermalRestart tj x)

def execAnalogStartup (verdicts : BitVec 29) (codes : List (BitVec 16)) (skipped : BitVec 12) (s : State) : Result :=
  .next (s.analogStartup verdicts codes skipped)
def execBootTableRead (main backup : List Byte) (vmode : Option Byte) (accepted : Bool) (s : State) : Result :=
  .next (s.readTable main backup vmode accepted)
def execVcoreArrival (mv : Nat) (s : State) : Result :=
  .next (s.vcoreArrives mv)
def execVcoreArrivalTimeout (s : State) : Result := .next s.vcoreMissing
def execReload (s : State) : Result := .next s.reload

end Sys2Proof.Machine
end

