-- ==== Sys2Proof/Machine/Intc.lean ====
section
/-! DEFINITION. The interrupt controller (R245, R324–R327), what Quince does when it takes an interrupt
(R164, R166, R167), and the housekeeping peripherals and QWDOG (R328–R332). -/

namespace Sys2Proof.Machine

/-! ### Sources (R97, R151, R195, R220, R245, R324, R328–R332, R364, R369, R382) -/

/-- UART_CTRL.rx_wm; 0 acts as 1 (R328). -/
def Uart.watermark (u : Uart) : Nat := if fld u.ctrl 8 4 = 0 then 1 else fld u.ctrl 8 4

/-- UART source (R328). -/
def Uart.pending (u : Uart) : Bool :=
  (bitOf u.ctrl 4 && decide (u.watermark ≤ u.rx.length)) || (bitOf u.ctrl 5 && u.tx.isEmpty) ||
  u.rxOvf || u.frameErr || u.parityErr

/-- SPI source (R329). -/
def Spi.pending (u : Spi) : Bool := bitOf u.ctrl 4 && ((u.tx.isEmpty && u.shift.isNone) || u.rxOvf)

/-- I2C source (R330). -/
def I2c.pending (u : I2c) : Bool := bitOf u.ctrl 1 && (u.done || u.arbLost)

/-- TIMER source (R331). -/
def Timer.pending (x : Timer) : Bool := x.ie && x.expired

/-- Pin bank source (R245). -/
def State.bankPending (s : State) (b : Nat) : Bool :=
  (List.range 48).any (fun i => (s.pin (48 * b + i)).pend &&
    (if i < 32 then (s.pinBank b).mask.getLsbD i else (s.pinBank b).maskH.getLsbD (i - 32)))

/-- Lace node source (R195). -/
def State.nodePending (s : State) (m : Nat) : Bool :=
  SMap.read (fun _ => (0 : BitVec 16)) s.lace.nirqPend m &&& SMap.read (fun _ => (0 : BitVec 16)) s.lace.nirqEn m != 0

/-- Seam error of a quadrant (R220). -/
def State.seamPending (s : State) (q : Nat) : Bool :=
  (List.range 64).any (fun i =>
    let g := s.seam (64 * q + i)
    g.epochErr || (g.errIe && (g.overrun || g.underrun || g.miss)))

/-- Pacer deficit of a quadrant (R97). -/
def State.deficitPending (s : State) (q : Nat) : Bool :=
  (List.range 16).any (fun i =>
    let p := s.pacer (16 * q + i)
    p.deficitIe && (p.deficit || p.debtOvf))

/-- The tile's source: an engine state of R151, or a tripped stall watchdog (R364). -/
def State.tilePending (s : State) (t : Nat) : Bool :=
  let x := s.core t
  (s.tile t).tripped || x.state == .faulted || x.state == .sys ||
    (x.state == .halted && x.cause == .halt && (s.tile t).haltIe)

/-- Awl's source (R382). -/
def Bist.pending (b : Bist) : Bool := (b.done && b.doneIe) || (b.bgFail && b.bgIe) || b.rej

/-- Fault manager source 3 (chapter 13). -/
def Flt.pending (f : Flt) : Bool := f.new || f.lost || f.tileFence || f.engFence

/-- Source `n` is pending at its origin (R324). -/
def State.pendingSrc (s : State) (n : Nat) : Bool :=
  let p := s.pwr
  if n = 0 then p.vwarn
  else if n = 1 then p.auxwarn
  else if n = 2 then p.therm
  else if n = 3 then s.flt.pending
  else if n = 4 then s.bist.pending
  else if n = 5 then s.cfg.err != 0 || (s.cfg.pcmdDone && s.cfg.pcmdDoneIe)
  else if n = 6 then p.pmAlert
  else if n = 7 then p.statIe && (p.budgetOvr || p.pmErr || p.cfgRej || p.gateRej)
  else if n = 8 then (List.range 12).any (fun b => (s.pinBank b).vccioWarn)
  else if n = 9 then s.hk.qwdog.early
  else if n < 14 then (s.timer (n - 10)).pending
  else if n < 16 then (s.uart (n - 14)).pending
  else if n < 18 then (s.spi (n - 16)).pending
  else if n < 20 then (s.i2c (n - 18)).pending
  else if n < 32 then s.bankPending (n - 20)
  else if n < 36 then s.nodePending (n - 32)
  else if n < 40 then s.seamPending (n - 36)
  else if n < 44 then s.deficitPending (n - 40)
  else if n < 128 then false
  else decide (n < 256) && s.tilePending (n - 128)

/-! ### Presentation (R325, R326) -/

/-- The level of a source; source 0 has level 15 (R324, R327). -/
def Intc.levelOf (x : Intc) (n : Nat) : Nat :=
  if n = 0 then 15 else (SMap.read (fun _ => (0 : BitVec 4)) x.level n).toNat

/-- Source `n` can be presented (R325); after an acknowledge it waits to be sampled again (R326). -/
def State.presentable (s : State) (n : Nat) : Bool :=
  let x := s.intc
  let l := x.levelOf n
  s.pendingSrc n && !x.inService.contains n && !x.resample.contains n &&
  (n == 0 || (SMap.read (fun _ => false) x.en n && decide (1 ≤ l) && decide (l ≤ 14) && decide (x.thr.toNat < l)))

/-- The source presented: the highest level, ties to the lowest number (R325). -/
def State.presented (s : State) : Option Nat :=
  ((List.range 15).map (15 - ·)).findSome? (fun l =>
    (List.range 256).find? (fun n => s.intc.levelOf n == l && s.presentable n))

/-- A shadow bank is active (R164). -/
def Quince.inBank1 (q : Quince) : Bool := q.ctxs.any (fun x => match x with | .bank1 _ => true | _ => false)
def Quince.inBank2 (q : Quince) : Bool := q.ctxs.any (fun x => match x with | .bank2 _ => true | _ => false)

/-- A level is taken at the next instruction boundary (R164). -/
def Quince.takes (q : Quince) (l : Nat) : Bool :=
  if l = 15 then !q.inBank2 else q.ie && !q.inBank1 && !q.inBank2

/-- The source that is ready to be taken, while Quince runs (R164, R325, R333). -/
def State.ready (s : State) : Option Nat :=
  if s.quince.stopped || s.quince.dbgHalted then none
  else match s.presented with
    | some n => if s.quince.takes (s.intc.levelOf n) then some n else none
    | none => none

/-! ### Taking an interrupt (R164, R166, R167) -/

/-- A result is held for the register bank in use (R167). -/
def State.hold (h : Held) (s : State) : State :=
  let b := s.bankOf 128
  { s with quince := { s.quince with held := SMap.insert (SMap.erase s.quince.held b) b h } }

/-- What becomes of the current instruction (R143, R148, R167): an unanswered wait and a load not yet
performed are left, a performed operation's result is held, and an EVW retires. -/
def State.settleQuince (s : State) : State :=
  let x := s.core 128
  match x.wait with
  | some (.evwQuince rd) => (s.setReg 128 rd 0).retire 128 (s.pc4 128)
  | some .queue =>
    match (s.req 128).phase with
    | .answer code v _ => (s.hold (.queue code v)).abandonWait 128
    | _ => s.abandonWait 128
  | some (.tapDone w t j _ _ d) => (s.hold (.tap w t j d)).abandonWait 128
  | some _ => s.abandonWait 128
  | none =>
    match x.load with
    | some l =>
      match l.reply with
      | some r => (s.hold (.load l.addr r)).undoLoad 128
      | none => s.undoLoad 128
    | none => s

/-- TAKING AN INTERRUPT: the return address, the bank, the level, the vector, and service (R164, R325, R327). -/
def State.enterInterrupt (n : Nat) (s : State) : State :=
  let l := s.intc.levelOf n
  let pc := (s.core 128).pc
  let q := s.quince
  let q1 := if l = 15 then { q with ipc2 := pc, ctxs := .bank2 q.lvl :: q.ctxs, lvl := l }
    else { q with ipc1 := pc, ctxs := .bank1 q.lvl :: q.ctxs, lvl := l }
  let i := s.intc
  ({ s with
    quince := q1
    intc := { i with inService := i.inService ++ [n], lastSrc := n, lastLevel := l } } : State).modCore 128
    (fun x => { x with pc := word (i.vbase.toNat * 4096 + 16 * n) })

/-! ### The boot ROM's handler of source 0 (R323) -/

/-- The vector of source 0 while INTC_VBASE holds its reset value. -/
def romVector : Word := 0x0FFFF000#32

/-- Quince is about to run the ROM's handler. -/
def State.atRomHandler (s : State) : Bool :=
  (s.core 128).pc == romVector && s.quince.inBank2 && !s.quince.dbgHalted && !s.quince.stopped

/-- Shadow bank 2 and INSTRET after the handler: the manual gives neither its words nor what it leaves there
(log entry 87). -/
def State.romScratch (s : State) : State :=
  (List.range 15).foldl (fun s i => (s.drawWord.2).setRegIn 128 2 (i + 1) s.drawWord.1)
    ((s.drawWord.2).modCore 128 (fun x => { x with instret := (x.instret + s.drawWord.1.toNat) % 2 ^ 64 }))

/-- A write to INTC_ACK (R326). -/
def Intc.ack (n : Nat) (x : Intc) : Intc :=
  if x.inService.contains n then
    { x with inService := x.inService.filter (· ≠ n), resample := x.resample ++ [n] }
  else x

/-- The handler runs to its end: vwarn is cleared, 0 is written to INTC_ACK, and IRET returns (R323). -/
def State.romHandler (s : State) : State :=
  if s.atRomHandler then
    let s1 := s.romScratch
    let s2 : State := { s1 with pwr := { s1.pwr with vwarn := false }, intc := s1.intc.ack 0 }
    s2.leaveContext.getD s2
  else s

/-- INTERRUPT_ENTRY. A HALT of the debug port that reaches the same boundary takes effect after the entry
(R333). -/
def State.interruptEntry (s : State) : State :=
  match s.ready with
  | some n => ((s.settleQuince.enterInterrupt n).boundary 128).romHandler
  | none => s

/-! ### UART and SPI (R328, R329) -/

/-- The transmitter takes the next byte when its shifter is free and it is enabled. -/
def Uart.pump (u : Uart) : Uart :=
  if bitOf u.ctrl 0 && u.shift.isNone then { u with shift := u.tx.head?, tx := u.tx.drop 1 } else u

def Uart.write (b : Byte) (u : Uart) : Uart :=
  (if u.tx.length < 16 then { u with tx := u.tx ++ [b] } else u).pump

/-- The oldest received byte is removed; 0 when there is none. -/
def Uart.read (u : Uart) : Uart := { u with lastRx := u.rx.headD 0, rx := u.rx.drop 1 }

/-- A byte arrives: it enters the FIFO, or sets an error bit (log entry 26). -/
def Uart.receive (b : Byte) (stopLow parityBad : Bool) (u : Uart) : Uart :=
  let checked := fld u.ctrl 1 2 == 1 || fld u.ctrl 1 2 == 2
  let bad := parityBad && checked
  if !bitOf u.ctrl 0 then u
  else if stopLow || bad then { u with frameErr := u.frameErr || stopLow, parityErr := u.parityErr || bad }
  else if 16 ≤ u.rx.length then { u with rxOvf := true }
  else { u with rx := u.rx ++ [b] }

def Uart.sent (u : Uart) : Uart := if u.shift.isSome then { u with shift := none }.pump else u

def Spi.pump (u : Spi) : Spi :=
  if bitOf u.ctrl 0 && u.shift.isNone then { u with shift := u.tx.head?, tx := u.tx.drop 1 } else u

def Spi.write (b : Byte) (u : Spi) : Spi :=
  (if u.tx.length < 16 then { u with tx := u.tx ++ [b] } else u).pump

def Spi.read (u : Spi) : Spi := { u with rx := u.rx.drop 1 }

/-- A byte has been shifted out and one in. -/
def Spi.shifted (b : Byte) (u : Spi) : Spi :=
  if u.shift.isSome then
    (if 16 ≤ u.rx.length then { u with shift := none, rxOvf := true }
     else { u with shift := none, rx := u.rx ++ [b] }).pump
  else u

/-! ### I2C (R330, log entry 27) -/

/-- The bus is enabled and free for a command. -/
def I2c.free (u : I2c) : Bool := bitOf u.ctrl 0 && !u.busy

/-- A write to I2C_CMD: its actions wait to be carried out; discarded while busy. -/
def I2c.command (v : Word) (u : I2c) : I2c :=
  if u.busy then u
  else
    let p : I2cPend := { start := bitOf v 0, stop := bitOf v 1, write := bitOf v 2, read := bitOf v 3 }
    if bitOf u.ctrl 0 && (p.start || p.stop || p.write || p.read) then
      { u with nack := bitOf v 4, pend := p, busy := true }
    else { u with nack := bitOf v 4 }

/-- The start condition: first of the actions. -/
def I2c.start (u : I2c) : I2c :=
  if u.pend.start then { u with pend := { u.pend with start := false } }
  else if u.free then { u with busy := true } else u

/-- I2C_DATA is sent; the target's answer. -/
def I2c.send (ack : Bool) (u : I2c) : I2c :=
  if u.pend.write && !u.pend.start then { u with pend := { u.pend with write := false }, ackRx := ack }
  else if u.free then { u with busy := true, ackRx := ack } else u

/-- One byte is received, after a byte that the same write sends. -/
def I2c.recv (b : Byte) (u : I2c) : I2c :=
  if u.pend.read && !u.pend.start && !u.pend.write then { u with pend := { u.pend with read := false }, data := b }
  else if u.free then { u with busy := true, data := b } else u

/-- The stop condition: after any other action of the same write. -/
def I2c.stop (u : I2c) : I2c :=
  if u.pend.stop && !u.pend.start && !u.pend.write && !u.pend.read then
    { u with pend := { u.pend with stop := false } }
  else if u.free then { u with busy := true } else u

/-- No action waits. -/
def I2cPend.empty (p : I2cPend) : Bool := !p.start && !p.stop && !p.write && !p.read

/-- The command completes, or arbitration is lost and the rest of it is dropped. -/
def I2c.finish (lost : Bool) (u : I2c) : I2c :=
  if u.busy && lost then
    { u with busy := false, arbLost := true, pend := { start := false, stop := false, write := false, read := false } }
  else if u.busy && u.pend.empty then { u with busy := false, done := true }
  else u

/-! ### Timers (R331) -/

/-- A write of TIMER_LOAD: the count takes it at the next HK edge. -/
def Timer.write (v : Word) (x : Timer) : Timer := { x with load := v, nextCount := some v }

/-- The count reaches zero; a value written for this edge wins over the reload (R331). -/
def Timer.expire (x : Timer) : Timer :=
  { x with
    expired := true, nextCount := none
    count := match x.nextCount with
      | some v => v
      | none => if x.periodic then x.load else 0 }

/-- TIMER_EXPIRY: the HK cycles up to the one in which the count reaches zero. The first of them takes a value
written to TIMER_LOAD, unless the count is 1 (R331, log entry 21). -/
def Timer.runOut (x : Timer) : Timer :=
  match x.nextCount with
  | none => if x.count = 0 then x else x.expire
  | some v =>
    if x.count = 1 then x.expire
    else if v = 0 then { x with count := 0, nextCount := none }
    else { x with nextCount := none }.expire

/-- One HK cycle of a timer (R331). -/
def Timer.tick (x : Timer) : Timer :=
  if x.en && x.count == 1 then x.expire
  else match x.nextCount with
    | some v => { x with count := v, nextCount := none }
    | none => if x.en && x.count != 0 then { x with count := x.count - 1 } else x

/-! ### QWDOG (R332) -/

/-- The count starts at limit; 0 acts as 1. -/
def Qwdog.restart (x : Qwdog) : Qwdog :=
  let n := if x.limit = 0 then 1 else x.limit.toNat
  { x with running := n, remaining := n, frac := 0 }

/-- A QWDOG_CTRL write. -/
def Qwdog.write (v : Word) (x : Qwdog) : Qwdog :=
  let a := fld v 1 2
  let y := { x with
    action := if a = 3 then x.action else BitVec.ofNat 2 a, limit := BitVec.ofNat 16 (fld v 16 16) }
  if bitOf v 0 && !x.en then { y with en := true }.restart else y

/-- One millisecond in units of 2^-20 XIN cycles (R332). -/
def Qwdog.ms : Nat := 25000 * 2 ^ 20

/-- What the count in progress has run, in those units. -/
def Qwdog.ran (x : Qwdog) : Nat := (x.running - x.remaining) * Qwdog.ms + x.frac

/-- The count has run for `t`; QWDOG_STAT shows the milliseconds that are not yet over. -/
def Qwdog.runTo (t : Nat) (x : Qwdog) : Qwdog :=
  { x with remaining := x.running - t / Qwdog.ms, frac := t % Qwdog.ms }

/-- Half of the limit. -/
def Qwdog.halfAt (x : Qwdog) : Nat := x.running * Qwdog.ms / 2

/-- Half of the limit has elapsed without a kick. -/
def Qwdog.half (x : Qwdog) : Qwdog :=
  if x.en && decide (x.ran < x.halfAt) then { x.runTo x.halfAt with early := true } else x

/-- The count runs on by `d`; passing half of the limit sets early. -/
def Qwdog.advance (d : Nat) (x : Qwdog) : Qwdog :=
  { x.runTo (x.ran + d) with early := x.early || (decide (x.ran < x.halfAt) && decide (x.halfAt ≤ x.ran + d)) }

/-- QRESET: Quince alone is reset. Its posted stores, which have retired, still drain; the boot ROM runs,
and hands over to firmware again in DONE (R126, R163, R332). -/
def State.qreset (s : State) : State :=
  let s1 := (match (s.core 128).wait with
    | some .queue => s.dropRequest 128
    | _ => s).abandonWait 128
  let x := s1.core 128
  let fw := s.cfg.state == .done && s.cfg.hasQuince
  ({ s1 with
    quince := { Quince.init with
      firmware := fw, dbgData := s.quince.dbgData, dbgDone := s.quince.dbgDone, dbgErr := s.quince.dbgErr }
    intc := { s1.intc with inService := [], resample := [] } } : State).setCore 128 { Core.init 128 with
      pc := if fw then 0x0F000000#32 else 0x0FFF8000#32, stores := x.stores, fetchEpoch := s.memEpoch }

def State.modQwdog (f : Qwdog → Qwdog) (s : State) : State := { s with hk := { s.hk with qwdog := f s.hk.qwdog } }

/-- QWDOG expires: fired, a new count, and the action. -/
def State.qwdogFire (x : Straps) (s : State) : State :=
  let s1 := s.modQwdog (fun w => { w with fired := true }.restart)
  let a := s.hk.qwdog.action
  if a = 0 then s1.qreset else if a = 1 then s1.reload else s1.deviceReset 5 x

/-- A write to QWDOG_KICK. -/
def State.kick (v : Word) (s : State) : State :=
  if !s.hk.qwdog.en then s
  else if v = 0xC0B1#32 then s.modQwdog Qwdog.restart
  else s.qwdogFire { bootsel := s.cfg.bootsel, pullsel := s.pins.pullsel }

/-- The count runs: enabled, and not paused by the debug port. -/
def State.qwdogRuns (s : State) : Bool := s.hk.qwdog.en && !s.quince.dbgHalted

/-- XIN cycles in one HK cycle, in units of 2^-20: one on XIN, else 25 MHz · D7 / ROOT (R196, R199, R201). -/
def State.hkXin (s : State) : Nat :=
  if s.clk.rootLock then s.clk.now.div * ((s.ec 7).div.toNat + 1) * 2 ^ 44 / s.clk.now.vco else 2 ^ 20

/-- One HK cycle of QWDOG (R332). -/
def State.tickQwdog (s : State) : State :=
  if !s.qwdogRuns then s
  else
    let q := s.hk.qwdog.advance s.hkXin
    if q.remaining = 0 then
      (s.modQwdog (fun _ => q)).qwdogFire { bootsel := s.cfg.bootsel, pullsel := s.pins.pullsel }
    else s.modQwdog (fun _ => q)

/-! ### The meanings -/

def execInterruptEntry (s : State) : Result := .next s.interruptEntry
def execIntcAck (src : Byte) (s : State) : Result := .next { s with intc := s.intc.ack src.toNat }
def execIntcResample (src : Byte) (s : State) : Result :=
  .next { s with intc := { s.intc with resample := s.intc.resample.filter (· ≠ src.toNat) } }
def execUartDataWrite (n : Fin 2) (v : Word) (s : State) : Result := .next (s.modUart n (Uart.write (byteOf v 0)))
def execUartReceive (n : Fin 2) (b : Byte) (stopLow parityBad : Bool) (s : State) : Result :=
  .next (s.modUart n (Uart.receive b stopLow parityBad))
def execUartTransmitDone (n : Fin 2) (s : State) : Result := .next (s.modUart n Uart.sent)
def execSpiDataWrite (n : Fin 2) (v : Word) (s : State) : Result := .next (s.modSpi n (Spi.write (byteOf v 0)))
def execSpiByteDone (n : Fin 2) (miso : Byte) (s : State) : Result := .next (s.modSpi n (Spi.shifted miso))
def execI2cStart (n : Fin 2) (s : State) : Result := .next (s.modI2c n I2c.start)
def execI2cStop (n : Fin 2) (s : State) : Result := .next (s.modI2c n I2c.stop)
def execI2cWrite (n : Fin 2) (ack : Bool) (s : State) : Result := .next (s.modI2c n (I2c.send ack))
def execI2cRead (n : Fin 2) (b : Byte) (s : State) : Result := .next (s.modI2c n (I2c.recv b))
def execI2cDone (n : Fin 2) (arbLost : Bool) (s : State) : Result := .next (s.modI2c n (I2c.finish arbLost))
def execTimerLoadWrite (n : Fin 4) (v : Word) (s : State) : Result := .next (s.modTimer n (Timer.write v))

def execTimerExpiry (n : Fin 4) (s : State) : Result :=
  .next (if (s.timer n).en then s.modTimer n Timer.runOut else s)

def execQwdogCtrlWrite (v : Word) (s : State) : Result := .next (s.modQwdog (Qwdog.write v))
def execQwdogKick (v : Word) (s : State) : Result := .next (s.kick v)
def execQwdogEarly (s : State) : Result := .next (if s.qwdogRuns then s.modQwdog Qwdog.half else s)
def execQwdogExpiry (x : Straps) (s : State) : Result := .next (if s.qwdogRuns then s.qwdogFire x else s)

end Sys2Proof.Machine
end

