-- ==== Sys2Proof/Machine/SelfTest.lean ====
section
/-! DEFINITION. The configuration scrubber (R290, R291, R301), Awl's tests on demand, at start-up and in
the background (R372–R382), and PERT (R383, R384). -/

namespace Sys2Proof.Machine

/-! ### The scrubber -/

/-- CLUSTER, SPINE and TILECTL frames of a tile, in ascending address order (R275, R290). -/
def scrubFrames : Nat := 1036

/-- The address of the `n`-th frame of a pass over all tiles. -/
def scrubAddr (n : Nat) : Nat :=
  let t := n / scrubFrames
  let i := n % scrubFrames
  if i < 1024 then frameAddr t 0 i else if i < 1032 then frameAddr t 1 (i - 1024) else frameAddr t 4 (i - 1032)

/-- The scrubber reads tile `t`: powered, not fenced, and in no region that is LOADING. -/
def State.scrubReads (s : State) (t : Nat) : Bool :=
  (s.tile t).power == .on && !(s.tile t).fenced && s.regionState t != .loading

/-- The first frame from number `n` on that the pass reads. -/
def State.scrubNext (s : State) (n : Nat) : Option Nat :=
  ((List.range 128).find? (fun t => decide (n / scrubFrames ≤ t) && s.scrubReads t)).map
    (fun t => if t = n / scrubFrames then n else t * scrubFrames)

/-- SCRUB_PASS_START. -/
def State.startScrub (s : State) : State :=
  if s.cfg.scrubEn && s.cfg.scrubAt.isNone then { s with cfg := { s.cfg with scrubAt := some 0 } } else s

/-- The error of 64-bit word `i` of a frame, if any. -/
def wordError (errs : List (Fin 32 × Bool)) (i : Nat) : Option Bool :=
  (errs.find? (fun e => e.1.val = i)).map (·.2)

/-- A double-bit error: counted, and reported for the fence of its tile (R290, R355, R366, R367). -/
def State.configUe (a : Nat) (s : State) : State :=
  ({ s with
    cfg := { s.cfg with scrubUe := sat 0xFF (s.cfg.scrubUe + 1) }
    dev := ({ s.dev with cfgUeTotal := sat 255 (s.dev.cfgUeTotal + 1) } : Dev).judge } : State).report
    { Report.of 0x03 with tile := faTile a, action := 2, detail := word a }

/-- One word of a frame is read: a single-bit error is corrected in place (R290). -/
def State.scrubWord (a : Nat) (e : Option Bool) (s : State) : State :=
  match e with
  | none => s
  | some false => { s with cfg := { s.cfg with scrubCe := sat 0xFFFF (s.cfg.scrubCe + 1) } }
  | some true => s.configUe a

/-- The pass goes on after frame `n`, or is complete (R301). -/
def State.scrubOn (n : Nat) (s : State) : State :=
  match s.scrubNext (n + 1) with
  | some m => { s with cfg := { s.cfg with scrubAt := some m } }
  | none => { s with cfg := { s.cfg with scrubAt := none, scrubPasses := s.cfg.scrubPasses + 1 } }

/-- SCRUB_FRAME: the next frame is read; `errs` names the words whose codes show an error. -/
def State.scrubFrame (errs : List (Fin 32 × Bool)) (s : State) : State :=
  match s.cfg.scrubAt with
  | none => s
  | some n =>
    if !s.cfg.scrubEn then s
    else match s.scrubNext n with
      | none => { s with cfg := { s.cfg with scrubAt := none, scrubPasses := s.cfg.scrubPasses + 1 } }
      | some m => ((List.range 32).foldl (fun (s : State) i => s.scrubWord (scrubAddr m) (wordError errs i)) s).scrubOn m

/-! ### Runs of Awl -/

/-- The tile of a background test, if it has one. -/
def bgTile : BgTest → Option Nat
  | .bank t => some t
  | .localMem t => some t
  | _ => none

/-- The bit of BIST_BG.en that a background test needs (R382). -/
def bgBit : BgTest → Nat
  | .bank _ => 0
  | .localMem _ => 1
  | .qsram => 2
  | .analog => 3

/-- The run that a command names (R373). -/
def State.runOf (s : State) : BistRun → Option AwlRun
  | .demand => s.bist.demand
  | .startup t => (s.bist.startup.find? (fun p => p.1 = t.val)).map (·.2)
  | .background b => (s.bist.background.find? (fun p => p.1 = bgKey b)).map (·.2)

/-- The run replaced, or removed. -/
def State.setRun (k : BistRun) (r : Option AwlRun) (s : State) : State :=
  let put := fun (m : SMap AwlRun) (n : Nat) => match r with
    | some x => SMap.insert (SMap.erase m n) n x
    | none => SMap.erase m n
  { s with bist := match k with
    | .demand => { s.bist with demand := r }
    | .startup t => { s.bist with startup := put s.bist.startup t }
    | .background b => { s.bist with background := put s.bist.background (bgKey b) } }

/-- A background pass pauses while a test on demand runs on the same target (R381). -/
def State.runPaused (s : State) (k : BistRun) (r : AwlRun) : Bool :=
  match k, s.bist.demand with
  | .background _, some d => d.target == r.target
  | _, _ => false

/-! ### Starting and stopping (R377, R381) -/

/-- A start is refused (R381). -/
def State.startRefused (s : State) : Bool :=
  let test := s.bist.test.toNat
  let t := s.bist.target.toNat
  s.bist.demand.isSome || !testKnown test t ||
  (test == testLogic && !(s.tile t).fenced && s.regionState t != .held && s.regionState t != .aborted)

/-- BIST_START: a tile that is gated cuts its test short at once (R373). -/
def State.startDemand (s : State) : State :=
  let test := s.bist.test.toNat
  let t := s.bist.target.toNat
  if s.startRefused then { s with bist := { s.bist with rej := true } }
  else
    let r := { AwlRun.start test t with cut := decide (0x10 ≤ test ∧ t < 128) && (s.tile t).power.off }
    { s with bist := { s.bist with
      demand := some r, state := 1, complete := false, isMatch := false, result := 0
      steps := 0, planned := r.planned
      ref := if s.bist.refUser then s.bist.ref else (s.refOf test t).getD 0 } }

/-- BIST_STOP cuts the running test short (R373). -/
def State.stopDemand (s : State) : State :=
  { s with bist := { s.bist with demand := s.bist.demand.map (fun r => { r with cut := true }) } }

/-- The target of a background pass serves it: a powered tile, not being loaded or cleared, and a bank
that is not fenced (R377). -/
def State.bgServes (s : State) (b : BgTest) : Bool :=
  match b with
  | .bank t => (s.tile t).power == .on && !(s.tile t).fenced && !(s.tile t).bankFenced && !(s.tile t).clearing &&
      s.regionState t != .loading
  | .localMem t => (s.tile t).power == .on && !(s.tile t).clearing && s.regionState t != .loading
  | _ => true

/-- BIST_PASS_START. -/
def State.startPass (b : BgTest) (s : State) : State :=
  if s.bist.bgEn.getLsbD (bgBit b) && s.bgServes b && (s.runOf (.background b)).isNone then
    s.setRun (.background b) (some (bgRun b))
  else s

/-! ### Steps (R374, R375, R378, R379) -/

/-- An access that meets the step aborts it: always for a bank and for Quince's SRAM, by policy for a
local memory and for a check of a temperature sensor or a speed monitor (R378, R379). -/
def State.yields (s : State) (r : AwlRun) : Bool :=
  if r.test = testLocal then !s.bist.policyLocal
  else if r.test = testStartup ∨ r.test = testRecheck then
    !s.bist.policyAnalog && decide (8 ≤ r.at) && decide (r.at ≤ 16)
  else r.test != testLogic

/-- An aborted step waits for the other windows of its pass; an analogue check is simply tried again (R378,
R379). -/
def AwlRun.aborted (r : AwlRun) : AwlRun := if r.test = testStartup ∨ r.test = testRecheck then r else r.abort

/-- A step may begin: a recheck of the PLL or of a phase loop needs its lock (R379). -/
def State.stepReady (s : State) (r : AwlRun) : Bool :=
  if r.test = testRecheck then
    (r.at != 0 || (s.clk.rootLock && !s.clk.relocking)) &&
    (r.at == 0 || decide (4 < r.at) || (s.phase (r.at - 1)).lock)
  else true

/-- The first word of the window that a March step saves (R374, R378). -/
def windowOf (r : AwlRun) : Option Nat :=
  if r.test = testBank then some (bankWord r.target + 64 * r.at)
  else if r.test = testLocal then some (localWord r.target + 64 * r.at)
  else if r.test = testQsram then some (qsramWord + 64 * r.at)
  else none

/-- The words of a window are read and come back as they were; a single-bit error is corrected and a
double-bit error is poisoned (R114, R115, R378). -/
def State.marchWindow (r : AwlRun) (s : State) : State :=
  match windowOf r with
  | some wa => (List.range 64).foldl (fun (s : State) i => (s.memRead (wa + i)).2) s
  | none => s

/-- The verdict bits that a step folds: an analogue check has one, and a bank without VCCIO passes (R374,
R375). -/
def stepVerdict (r : AwlRun) (verdict : BitVec 16) (skip : Bool) : Nat :=
  if r.test = testStartup ∨ r.test = testRecheck then
    b2n (verdict.getLsbD 0 || (skip && decide (17 ≤ r.at)))
  else verdict.toNat

/-- An analogue check leaves its code and verdict in BIST_LOG (R375). -/
def State.logCheck (r : AwlRun) (verdict code : BitVec 16) (skip : Bool) (s : State) : State :=
  if r.test = testStartup ∨ r.test = testRecheck then
    let v := checkLog (stepVerdict r verdict skip == 1) code (skip && decide (17 ≤ r.at))
    { s with bist := { s.bist with log := SMap.write (fun _ => (0 : BitVec 18)) s.bist.log r.at v } }
  else s

/-- BIST_WINDOW: one step, or an access aborts it (R378, R379). -/
def State.bistWindow (k : BistRun) (verdict code : BitVec 16) (skip conflict : Bool) (s : State) : State :=
  match s.runOf k with
  | none => s
  | some r =>
    if r.cut || r.complete || s.runPaused k r || !s.stepReady r then s
    else if conflict && s.yields r then s.setRun k (some r.aborted)
    else
      let s1 := ((s.marchWindow r).logCheck r verdict code skip).setRun k (some (r.fold (stepVerdict r verdict skip)))
      match k with
      | .demand => { s1 with bist := { s1.bist with steps := r.steps + 1 } }
      | _ => s1

/-! ### Ends (R355, R373, R376, R380) -/

/-- The test on demand ends (R373, R381). -/
def State.endDemand (r : AwlRun) (s : State) : State :=
  let ref := s.demandRef r
  let s1 : State := { s with bist := { (s.bist.ended r ref) with demand := none, ref := s.bist.ref } }
  if r.result ref = 1 then s1 else s1.report (bistReport r (r.result ref) 0)

/-- A start-up test of tile `t` ends: the tile's next test, the start-up sequence once none is left, or
a failed load (R285, R289, R376). -/
def State.endStartup (t : TileId) (r : AwlRun) (s : State) : State :=
  let ref := s.refOf r.test r.target
  let s1 : State := ({ s with bist := s.bist.ended r ref } : State).setRun (.startup t) none
  if r.result ref ≠ 1 then s1.failLoad errBist none false
  else
    let left := s1.cfg.tests.erase (t.val, r.test)
    let s2 : State := { s1 with cfg := { s1.cfg with tests := left } }
    match left.find? (fun q => q.1 = t.val) with
    | some q => s2.setRun (.startup t) (some (AwlRun.start q.2 t))
    | none => if left = [] then s2.startSequence else s2

/-- BIST_TEST_END. -/
def State.bistEnd (k : BistRun) (s : State) : State :=
  match s.runOf k with
  | none => s
  | some r =>
    if !(r.cut || r.complete) then s
    else match k with
      | .demand => s.endDemand r
      | .startup t => s.endStartup t r
      | .background b =>
        (s.setRun k none).endBackground b r

/-! ### PERT (R383, R384) -/

/-- Every acknowledge that PERT_BP holds back is passed on. -/
def State.passAcks (ks : List Nat) (s : State) : State :=
  let s1 := ks.foldl (fun s k => s.modNode k (fun n => { n with ack := true, full := false })) s
  { s1 with wires := { s1.wires with bpHeld := s1.wires.bpHeld.filter (fun k => !ks.contains k) } }

/-- PERT locks, which ends every perturbation (R383). -/
def State.lockPert (s : State) : State :=
  { s.passAcks s.wires.bpHeld with pert := s.pert.lock }

/-- A write to PERT_KEY (R383). -/
def State.writeKey (v : Word) (s : State) : State :=
  let k := s.pert.key
  if fld v 0 16 = 0x5EA1 then { s with pert := { s.pert with key := if k < 2 then 1 else 3 } }
  else if fld v 0 16 = 0xA15E ∧ (k = 1 ∨ k = 3) then { s with pert := { s.pert with key := 2 } }
  else s.lockPert

/-- PERT_LACE.arm (R384). -/
def State.armLace (s : State) : State :=
  if s.pertOpen && s.pert.en.getLsbD 3 then
    let n := fld s.pert.lace 4 4
    { s with pert := { s.pert with laceArmed := some (fld s.pert.lace 0 2, if n = 0 then 1 else n) } }
  else s

/-- Bit 0, or bits 0 and 1, of a stored word flip; a poisoned word stays as it is (R116, R384). -/
def eccFlip (both : Bool) : Option Ecc → Option Ecc
  | none => some (if both then .double true true else .single (some false))
  | some (.single none) => some (.double true false)
  | some (.single (some false)) => if both then some (.single (some true)) else none
  | some (.single (some true)) => some (if both then .single (some false) else .double true true)
  | some (.double _ true) => if both then none else some (.single (some true))
  | some (.double _ false) => some (.double true false)
  | some .poison => some .poison

/-- The word that PERT_ECC names (R384). -/
def Pert.eccWord (p : Pert) : Option Nat :=
  let t := fld p.ecc 0 7
  let w := fld p.ecc 10 16
  let m := fld p.ecc 7 2
  if m = 0 then some (bankWord t + w % 0x8000) else if m = 1 then some (localWord t + w % 0x1000)
  else if m = 2 then some (qsramWord + w) else none

/-- PERT_ECC.arm, applied in a cycle free of other access. -/
def State.armEcc (s : State) : State :=
  if s.pertOpen && s.pert.en.getLsbD 4 then
    match s.pert.eccWord with
    | some wa => s.setEcc wa (eccFlip (bitOf s.pert.ecc 9) (s.eccAt wa))
    | none => s
  else s

/-- PERT_BP_HOLD_EXPIRY: the acknowledge held longest is passed to its producer. -/
def State.bpExpire (s : State) : State :=
  match s.wires.bpHeld with
  | [] => s
  | k :: _ => s.passAcks (s.wires.bpHeld.filter (fun n => n / 16 = k / 16))

/-! ### The meanings -/

def execScrubPassStart (s : State) : Result := .next s.startScrub
def execScrubFrame (errs : List (Fin 32 × Bool)) (s : State) : Result := .next (s.scrubFrame errs)

/-- CFG_SCRUB.cnt_clr (R301). -/
def execScrubCntClr (s : State) : Result := .next { s with cfg := { s.cfg with scrubCe := 0, scrubUe := 0 } }

def execBistStart (s : State) : Result := .next s.startDemand
def execBistStop (s : State) : Result := .next s.stopDemand
def execBistPassStart (b : BgTest) (s : State) : Result := .next (s.startPass b)
def execBistWindow (k : BistRun) (verdict code : BitVec 16) (skip conflict : Bool) (s : State) : Result :=
  .next (s.bistWindow k verdict code skip conflict)
def execBistTestEnd (k : BistRun) (s : State) : Result := .next (s.bistEnd k)
def execPertKeyWrite (v : Word) (s : State) : Result := .next (s.writeKey v)
def execPertLaceArm (s : State) : Result := .next s.armLace
def execPertEccArm (s : State) : Result := .next s.armEcc
def execPertBpHoldExpiry (s : State) : Result := .next s.bpExpire

end Sys2Proof.Machine
end

