-- ==== Sys2Proof/Machine/RegsA.lean ====
section
/-! DEFINITION. The register map, first part: what a read of each register returns (R4, R5, R7, chapter
15), and the two kinds of read with a side effect (R94, R328, R329). -/

namespace Sys2Proof.Machine

/-! ### Addresses -/

/-- The block of a register address, 64 KiB each, and the offset in it (R403). -/
def regBlock (a : Nat) : Nat := (a - 0x08000000) / 0x10000
def regOff (a : Nat) : Nat := a % 0x10000

/-- A field value placed at bit `lo`. -/
def at_ (v lo : Nat) : Nat := v * 2 ^ lo

/-- 32 flags as a word. -/
def flags (n : Nat) (f : Nat → Bool) : Nat := (List.range n).foldl (fun v i => v + atBit (f i) i) 0

/-! ### DEV (R353, R367, R368, R405) -/

/-- SERVICE_N is driven low (R366, R405). -/
def State.serviceLow (s : State) : Bool := s.dev.service || s.dev.svcForce

def State.readDev (s : State) (o : Nat) : Nat :=
  let d := s.dev
  if o = 0x00 then 0x4E510128
  else if o = 0x08 then b2n d.svcForce + atBit d.dbgDis 1
  else if o = 0x0C then
    s.cfg.status % 8 + atBit s.cfg.doneBall 3 + atBit s.serviceLow 4 + atBit Config.lockFuse 5 +
      atBit Config.gradeI 6 + atBit (Config.fuseDigest != 0) 7
  else if o = 0x10 then
    s.health + atBit d.svcTiles 2 + atBit d.svcCfg 3 + atBit d.svcAnalog 4 + atBit d.svcBank 5 +
      atBit d.svcBoot 6 + at_ d.tilesTotal 8 + at_ d.cfgUeTotal 16 + at_ d.enginesTotal 24
  else if o = 0x14 then d.tileThr.toNat + at_ d.cfgThr.toNat 8
  else if o = 0x18 then d.ewBlocks.toNat + atBit d.ewTiles 12
  else if 0x20 ≤ o ∧ o < 0x30 then fld Config.fuseDigest (8 * (o - 0x20)) 32
  else if 0x30 ≤ o ∧ o < 0x38 then fld Config.uid (8 * (o - 0x30)) 32
  else 0

/-! ### CFG (R293–R301, R318–R322) -/

def LoaderState.code : LoaderState → Nat
  | .idle => 0 | .boot => 1 | .loadingFull => 2 | .sequence => 3 | .done => 4 | .failed => 5
  | .loadingPartial => 6

def RegionState.code : RegionState → Nat
  | .empty => 0 | .loading => 1 | .held => 2 | .running => 3 | .aborted => 4 | .fenced => 5

/-- CFG_STAT.locked: the fuse shows once the reset is over, which leaves the field 0 (R6, R293, R404, log entry 8). -/
def State.locked (s : State) : Bool := s.cfg.sessionLock || (Config.lockFuse && s.cfg.status != 0)

/-- Region `r` is defined: in the region table, or region 0 once a full image has loaded (R322). -/
def State.defined (s : State) (r : Nat) : Bool :=
  if r = 0 then s.cfg.loaded else (s.region r).mask != 0

/-- The tile next to `t` on side `d`: 0 north, 1 east, 2 south, 3 west (R17). -/
def tileNext (t d : Nat) : Option Nat :=
  let x := tileX t
  let y := tileY t
  if d = 0 then (if y < 7 then some (tileAt x (y + 1)) else none)
  else if d = 1 then (if x < 15 then some (tileAt (x + 1) y) else none)
  else if d = 2 then (if 0 < y then some (tileAt x (y - 1)) else none)
  else (if 0 < x then some (tileAt (x - 1) y) else none)

/-- The pairs of tiles on the boundary of region `r` (R307). -/
def State.boundaryOf (s : State) (r : Nat) : List (Nat × Nat) :=
  (s.regionTiles r).flatMap (fun t => (List.range 4).filterMap (fun d =>
    match tileNext t d with
    | some u => if s.regionOf u = r then none else some (t, u)
    | none => none))

/-- CFG_REGIONn (R322). -/
def State.readRegion (s : State) (r : Nat) : Nat :=
  let g := s.region r
  let ts := if s.defined r then s.regionTiles r else []
  let bs := if s.defined r then s.boundaryOf r else []
  g.state.code + atBit (s.defined r) 3 + at_ ts.length 4 + at_ (ts.headD 0) 12 +
    atBit (!bs.isEmpty && bs.all (fun p => s.sealed p.1 p.2)) 19 + at_ g.loads.toNat 24

/-- CFG_SEQ.waiting (R300). -/
def SeqPhase.waits : SeqPhase → Bool
  | .waitLock => true
  | .delay _ => true
  | .waitPin _ _ _ => true
  | _ => false

def State.readCfg (s : State) (o : Nat) : Nat :=
  let c := s.cfg
  let busy := fun (k : RegionCmd) => c.cmds.any (fun x => x.1 == k)
  if o = 0x00 then
    c.state.code + atBit c.golden 3 + atBit c.primaryFail 4 + atBit c.authOk 5 + atBit s.locked 6 + atBit c.pertOk 7
  else if o = 0x04 then atBit c.goldenNext 1
  else if o = 0x08 then
    c.bootsel.toNat + atBit c.pullsel 2 + atBit c.tableOk 3 + atBit c.backup 4 + atBit c.pmbusOk 5
  else if o = 0x0C then
    c.err + atBit c.errInRetry 8 + atBit c.errGolden 9 + atBit c.errPartial 10 + atBit c.errIsOffset 11
  else if o = 0x10 then c.errAddr.toNat
  else if o = 0x14 then c.wdogMs.toNat + at_ (sat 0xFFFF c.wdogEff) 16
  else if o = 0x18 then c.retryLimit.toNat + at_ c.retryCount 16
  else if o = 0x20 then c.psrc.toNat
  else if o = 0x24 then c.plen.toNat
  else if o = 0x28 then c.preg.toNat
  else if o = 0x2C then
    b2n (busy .load) + atBit (busy .release) 2 + atBit (busy .clear) 3 + atBit c.pcmdSrc 4 +
      atBit c.pcmdRej 5 + atBit (!c.cmds.isEmpty) 6 + atBit c.pcmdDoneIe 7 + atBit c.pcmdDone 8
  else if o = 0x30 then
    c.seqIndex % 16 + at_ (c.seqCode % 256) 4 + atBit c.seqPhase.waits 12 + atBit c.seqComplete 13 +
      atBit c.pinTmo 14 + at_ c.seqDone.toNat 16
  else if 0x40 ≤ o ∧ o < 0x80 then s.readRegion ((o - 0x40) / 4)
  else if o = 0x80 then b2n c.scrubEn + at_ c.scrubPeriod.toNat 16
  else if o = 0x84 then c.scrubCe + at_ c.scrubUe 16 + at_ c.scrubPasses.toNat 24
  else if o = 0x88 then c.framesWritten % 2 ^ 18
  else 0

/-! ### PWR and CLK (R221–R225, R350–R352) -/

/-- A temperature in 8 bits, two's complement; one beyond them shows their end (R352, log entry 52). -/
def int8 (v : Int) : Nat := (max (-128) (min 127 v) % 256).toNat

def State.readPwr (s : State) (o : Nat) : Nat :=
  let p := s.pwr
  if o = 0x00 then
    (p.nextMode.getD p.mode).toNat + atBit p.statIe 2 + at_ p.win.toNat 4 + at_ p.upStep.toNat 8 + at_ p.hold.toNat 12
  else if o = 0x04 then p.budget
  else if o = 0x08 then p.vset
  else if o = 0x0C then p.target + at_ p.meas 16
  else if o = 0x10 then p.pnow + at_ p.pnowMax 16
  else if o = 0x14 then p.vmin + at_ p.vmax 16
  else if o = 0x18 then p.warn + at_ p.warnDg 16
  else if o = 0x1C then p.trip
  else if o = 0x20 then
    b2n p.pmbusOk + atBit p.settled 1 + atBit (p.target == p.lo) 2 + atBit (p.suspend != 0) 3 +
      atBit p.budgetOvr 4 + atBit p.therm 5 + atBit p.vwarn 6 + atBit p.auxwarn 7 + atBit p.pmAlert 8 +
      atBit p.pmErr 9 + atBit p.cfgRej 10 + atBit p.gateRej 11 + at_ p.lastReset 12 + at_ p.pmStatus.toNat 16
  else if o = 0x24 then int8 p.tj + at_ (int8 p.tjMax) 8
  else if o = 0x28 then p.speedPs + at_ (p.speedQ % 4) 12
  else if o = 0x2C then p.pmAddr.toNat + atBit p.pec 7 + at_ p.voutN.toNat 8 + atBit p.fast 13
  else if 0x30 ≤ o ∧ o < 0x40 then flags 32 (fun i => !(s.tile (8 * (o - 0x30) + i)).power.isOn)
  else if o = 0x40 then p.tlim + at_ p.hyst 8
  else 0

/-- CLK_STAT.ec_run: the clock runs, and EC7 has given an edge since reset, which leaves the field 0 (R6, R223;
log entry 28). -/
def State.ecShown (s : State) (n : Nat) : Bool := s.ecRuns n && (n != 7 || s.clk.rootLock || s.time != 0)

def State.readClk (s : State) (o : Nat) : Nat :=
  let c := s.clk
  if o = 0x00 then
    c.held.n + at_ c.held.post 8 + atBit c.xinMode 10 + atBit c.held.fracEn 11 + atBit c.pllEn 12 + atBit c.relockAct 13
  else if o = 0x04 then c.held.frac
  else if o = 0x08 then
    b2n c.rootLock + at_ (flags 4 (fun q => (s.phase q).lock)) 1 + atBit c.unlock 5 + atBit c.cfgRej 6 +
      atBit c.xinFail 7 + at_ (flags 8 s.ecShown) 8 + atBit c.relocking 16
  else if 0x10 ≤ o ∧ o < 0x30 then
    let e := s.ec ((o - 0x10) / 4)
    e.div.toNat + atBit e.en 12
  else if 0x30 ≤ o ∧ o < 0x40 then
    let x := s.phase ((o - 0x30) / 4)
    b2n x.en + atBit x.lock 1 + at_ x.trim.toNat 8 + at_ x.err.toNat 16
  else 0

/-! ### PACE (R91–R96) -/

/-- The upper half that core `c`'s PACE_CNTL read has latched and its PACE_CNTH read has not yet taken (R94). -/
def Core.latchOf (x : Core) (n : Nat) : Option Word := SMap.read (fun _ => none) x.paceLatch n

def State.readPace (s : State) (c o : Nat) : Nat :=
  let n := o / 0x20
  let p := s.pacer n
  let r := o % 0x20
  if 64 ≤ n then 0
  else if r = 0x00 then
    b2n p.en + at_ p.ecWritten 1 + atBit p.bank 4 + atBit p.deficitIe 5 + atBit p.accClr 6 +
      at_ (p.joinPend.getD (p.joinTile, p.joinCluster)).1.toNat 8 +
      at_ (p.joinPend.getD (p.joinTile, p.joinCluster)).2.toNat 13 + atBit p.govExcl 24
  else if r = 0x04 then p.incWritten.toNat
  else if r = 0x08 then p.nextDepth.getD p.depth + at_ p.lead 8 + atBit p.offered 12 + at_ p.leadMax 16
  else if r = 0x0C then p.count % 2 ^ 32
  else if r = 0x10 then ((s.core c).latchOf n).elim (p.count / 2 ^ 32) (·.toNat)
  else if r = 0x14 then p.debt + at_ p.deficits 16
  else if r = 0x18 then
    b2n (p.en && s.cfg.pacersStarted && p.held.isNone) + atBit p.deficit 1 + atBit p.debtOvf 2 + atBit p.held.isSome 3 +
      atBit p.cfgRej 4 + atBit p.joinPend.isSome 5
  else 0

/-- PACE_CNTL_READ: the upper half is latched for core `c` (R94). -/
def State.latchPace (c n : Nat) (s : State) : State :=
  s.modCore c (fun x => { x with
    paceLatch := SMap.write (fun _ => none) x.paceLatch n (some (word ((s.pacer n).count / 2 ^ 32))) })

/-- A PACE_CNTH read by core `c` has taken the latched half (R94). -/
def State.unlatchPace (c n : Nat) (s : State) : State :=
  s.modCore c (fun x => { x with paceLatch := SMap.erase x.paceLatch n })

/-! ### PIN (R251–R254) -/

/-- PIN_CFGp: the value last accepted, and sw (R239, R240, R251). -/
def Pin.readCfg (x : Pin) : Nat :=
  if x.sw.cycle = 0 then x.cfg.toNat else (x.sw.next.getD x.sw.cfg).toNat + 2 ^ 31

def Pin.readIrq (x : Pin) : Nat :=
  x.trig.toNat + at_ x.dg.toNat 3 + atBit x.pend 11 + atBit x.laneEn 12 + atBit x.tileEv 13 + atBit x.evOvf 14 +
    atBit x.psFault 15 + atBit x.psUnder 16

def State.bankMask (s : State) (b i : Nat) : Bool :=
  if i < 32 then (s.pinBank b).mask.getLsbD i else (s.pinBank b).maskH.getLsbD (i - 32)

def State.readPinBank (s : State) (b r : Nat) : Nat :=
  let k := s.pinBank b
  if r = 0x00 then flags 32 (fun i => (s.pin (48 * b + i)).pend)
  else if r = 0x04 then k.mask.toNat
  else if r = 0x08 then
    ((List.range 48).find? (fun i => (s.pin (48 * b + i)).pend && s.bankMask b i)).getD 0 +
      atBit (s.bankPending b) 6 + atBit k.vccioWarn 7 +
      atBit ((List.range 48).any (fun i => (s.pin (48 * b + i)).psFault)) 8 + atBit k.cfgRej 9
  else if r = 0x0C then flags 16 (fun i => (s.pin (48 * b + 32 + i)).pend)
  else if r = 0x10 then k.maskH.toNat + at_ k.evTile.toNat 16 + atBit k.evEn 23
  else 0

def State.readPin (s : State) (o : Nat) : Nat :=
  if o < 0x900 then (s.pin (o / 4)).readCfg
  else if 0x1000 ≤ o ∧ o < 0x1900 then (s.pin ((o - 0x1000) / 4)).readIrq
  else if 0x2000 ≤ o ∧ o < 0x2300 then s.readPinBank ((o - 0x2000) / 0x40) (o % 0x40)
  else if 0x3000 ≤ o ∧ o < 0x3048 then flags 32 (fun i => (s.pin (8 * (o - 0x3000) + i)).outLatch)
  else if 0x3080 ≤ o ∧ o < 0x30C8 then flags 32 (fun i => (s.pin (8 * (o - 0x3080) + i)).oeLatch)
  else if 0x3100 ≤ o ∧ o < 0x3148 then flags 32 (fun i => (s.pin (8 * (o - 0x3100) + i)).sync2)
  else 0

/-! ### SEAM (R216–R219) -/

/-- SEAM_STAT.state: HOLD_E is RUN with the edge clock stopped (R210, R217). -/
def State.seamCode (s : State) (i : Nat) : Nat :=
  let g := s.seam i
  match g.state with
  | .off => 0
  | .reset => 1
  | .run => if s.ecRuns (fld g.cfg 4 3) then 2 else 3
  | .faultHold => 4

def State.readSeam (s : State) (o : Nat) : Nat :=
  let i := o / 0x10
  let g := s.seam i
  let r := o % 0x10
  if 256 ≤ i then 0
  else if r = 0x0 then g.pend.toNat
  else if r = 0x4 then
    s.seamCode i + at_ (sat 16 g.fifo.length) 3 + atBit g.epochF 8 + atBit g.epochE 9 + atBit g.epochErr 10 +
      atBit g.overrun 11 + atBit g.underrun 12 + atBit g.miss 13 + atBit (s.seamForced i) 14 + atBit g.s3 15 +
      atBit g.cfgRej 16
  else if r = 0x8 then g.xfers + at_ g.flows 20 + at_ g.misses 26
  else if r = 0xC then
    g.group.toNat + atBit (s.groupResetting i) 4 + at_ g.tile 8 + at_ g.tap 13 + at_ g.edgeBase 17 + atBit g.errIe 27
  else 0

/-! ### FLT, BIST, PERT and LACE (R190–R195, R356, R369–R371, R375, R382, R384) -/

def Record.wordAt (r : Record) (w : Nat) : Word :=
  if w = 0 then r.w0 else if w = 1 then r.w1 else if w = 2 then r.w2 else r.w3

def State.readFlt (s : State) (o : Nat) : Nat :=
  let f := s.flt
  if o = 0x00 then
    b2n f.new + atBit f.lost 1 + atBit f.tileFence 2 + atBit f.engFence 3 + atBit (!s.lace.adoptions.isEmpty) 4 +
      at_ ((List.range 128).countP (fun t => (s.tile t).fenced)) 8 +
      at_ ((List.range 128).countP (fun e => (s.core e).state == .fenced)) 16
  else if o = 0x04 then
    b2n f.trapFence + atBit f.wdogFence 1 + atBit f.adoptFixed 2 + at_ f.adoptEng.toNat 3
  else if o = 0x08 then f.ewdog.toNat
  else if 0x10 ≤ o ∧ o < 0x20 then flags 32 (fun i => (s.tile (8 * (o - 0x10) + i)).fenced)
  else if 0x20 ≤ o ∧ o < 0x30 then flags 32 (fun i => (s.core (8 * (o - 0x20) + i)).state == .fenced)
  else if o = 0x30 then f.head + atBit f.wrapped 6 + at_ f.count 16
  else if 0x100 ≤ o ∧ o < 0x500 then
    ((SMap.read Record.zero f.log ((o - 0x100) / 16)).wordAt (o / 4 % 4)).toNat
  else 0

def State.readBist (s : State) (o : Nat) : Nat :=
  let b := s.bist
  if o = 0x00 then
    atBit b.doneIe 2 + atBit b.bgIe 3 + atBit b.refUser 4 + at_ b.test.toNat 8 + at_ b.target.toNat 16
  else if o = 0x04 then
    b.state + atBit b.complete 2 + atBit b.isMatch 3 + at_ b.result 4 + atBit b.done 6 + atBit b.bgFail 7 +
      at_ (b.bgTest % 256) 8 + at_ (b.bgTarget % 256) 16 + atBit b.rej 24
  else if o = 0x08 then b.sig.toNat
  else if o = 0x0C then b.ref.toNat
  else if o = 0x10 then b.steps + at_ b.planned 16
  else if o = 0x14 then b2n b.policyLocal + atBit b.policyAnalog 1
  else if o = 0x18 then b.bgEn.toNat + at_ b.memPeriod.toNat 8 + at_ b.analogPeriod.toNat 16
  else if 0x100 ≤ o ∧ o < 0x174 then (SMap.read (fun _ => (0 : BitVec 18)) b.log ((o - 0x100) / 4)).toNat
  else 0

def State.readPert (s : State) (o : Nat) : Nat :=
  let p := s.pert
  if o = 0x00 then atBit (decide (2 ≤ p.key)) 16
  else if o = 0x04 then p.en.toNat
  else if o = 0x10 then p.delay.toNat
  else if o = 0x14 then p.bp.toNat
  else if o = 0x18 then p.seam.toNat
  else if o = 0x1C then p.lace.toNat + atBit p.laceArmed.isSome 8
  else if o = 0x20 then p.ecc.toNat
  else if o = 0x28 then p.pace.toNat
  else 0

def State.readLace (s : State) (o : Nat) : Nat :=
  let l := s.lace
  if o = 0x00 then b2n l.hold + atBit l.reroute 1 + at_ l.adoptEv.toNat 2
  else if o = 0x04 then
    l.linkFail.toNat + at_ (flags 4 s.isolated) 4 + atBit l.hold 8 + atBit (!l.adoptions.isEmpty) 9
  else if o = 0x08 then (l.nextDiv.getD l.tickDiv).toNat + at_ l.minTicks.toNat 16
  else if o = 0x0C then l.retryCnt + at_ l.retryLimit.toNat 16
  else if o = 0x10 then
    b2n l.descRej + atBit l.eyeFault 1 + atBit l.entryUe 2 + atBit l.errLink 3 + atBit l.retryTimeout 4 +
      at_ (l.errQueue % 2 ^ 14) 8 + at_ (l.errCaller % 256) 24
  else if 0x100 ≤ o ∧ o < 0x200 then
    let m := (o - 0x100) / 0x40
    let r := o % 0x40
    if r = 0x0 then SMap.read (fun _ => 0) l.nops m % 2 ^ 32
    else if r = 0x4 then s.waitersAt m + at_ (SMap.read (fun _ => 0) l.nwaitMax m) 16
    else if r = 0x8 then
      (SMap.read (fun _ => (0 : BitVec 16)) l.nirqPend m).toNat +
        at_ (SMap.read (fun _ => (0 : BitVec 16)) l.nirqEn m).toNat 16
    else 0
  else 0

/-! ### INTC and HK (R327–R332) -/

def State.readIntc (s : State) (o : Nat) : Nat :=
  let x := s.intc
  if o < 0x100 then
    (List.range 4).foldl (fun v m =>
      let n := o + m
      v + at_ (x.levelOf n) (8 * m) + atBit (x.inService.contains n) (8 * m + 7)) 0
  else if o < 0x120 then flags 32 (fun i => s.pendingSrc (8 * (o - 0x100) + i))
  else if o < 0x140 then
    flags 32 (fun i => (o == 0x120 && i == 0) || SMap.read (fun _ => false) x.en (8 * (o - 0x120) + i))
  else if o = 0x140 then at_ x.vbase.toNat 12
  else if o = 0x144 then
    x.thr.toNat + (match s.presented with
      | some n => at_ (x.levelOf n) 8 + at_ n 16
      | none => 0)
  else if o = 0x148 then x.lastSrc + at_ x.lastLevel 8
  else 0

def Uart.reg (u : Uart) (r : Nat) : Nat :=
  if r = 0x0 then (u.rx.headD 0).toNat
  else if r = 0x4 then
    u.tx.length + at_ u.rx.length 8 + atBit u.rxOvf 16 + atBit u.frameErr 17 + atBit u.parityErr 18 +
      atBit (u.tx.isEmpty && u.shift.isNone) 19
  else if r = 0x8 then u.ctrl.toNat
  else if r = 0xC then u.baud.toNat
  else 0

def Spi.reg (u : Spi) (r : Nat) : Nat :=
  if r = 0x0 then (u.rx.headD 0).toNat
  else if r = 0x4 then u.tx.length + at_ u.rx.length 8 + atBit u.shift.isSome 16 + atBit u.rxOvf 17
  else if r = 0x8 then u.ctrl.toNat
  else 0

def I2c.reg (u : I2c) (r : Nat) : Nat :=
  if r = 0x0 then u.data.toNat
  else if r = 0x4 then
    b2n u.pend.start + atBit u.pend.stop 1 + atBit u.pend.write 2 + atBit u.pend.read 3 + atBit u.nack 4
  else if r = 0x8 then b2n u.busy + atBit u.ackRx 1 + atBit u.arbLost 2 + atBit u.done 3
  else if r = 0xC then u.ctrl.toNat
  else 0

def Timer.reg (x : Timer) (r : Nat) : Nat :=
  if r = 0x0 then b2n x.en + atBit x.periodic 1 + atBit x.ie 2
  else if r = 0x4 then x.load.toNat
  else if r = 0x8 then x.count.toNat
  else if r = 0xC then b2n x.expired
  else 0

def Qwdog.reg (x : Qwdog) (o : Nat) : Nat :=
  if o = 0x700 then b2n x.en + at_ x.action.toNat 1 + at_ x.limit.toNat 16
  else if o = 0x708 then sat 0xFFFF x.remaining + atBit x.early 16 + atBit x.fired 17
  else 0

def State.readHk (s : State) (o : Nat) : Nat :=
  if o < 0x200 then (s.uart (o / 0x100)).reg (o % 0x100)
  else if o < 0x400 then (s.spi ((o - 0x200) / 0x100)).reg (o % 0x100)
  else if o < 0x600 then (s.i2c ((o - 0x400) / 0x100)).reg (o % 0x100)
  else if o < 0x640 then (s.timer ((o - 0x600) / 0x10)).reg (o % 0x10)
  else s.hk.qwdog.reg o

/-! ### TILE (R49, R120, R121, R154–R158, R179, R180, R364, R365) -/

def EngState.code : EngState → Nat
  | .held => 0 | .running => 1 | .waiting => 2 | .halted => 3 | .faulted => 4 | .sys => 5
  | .fenced => 6 | .off => 7

/-- TILE_G0–G15 can be reached (R158). -/
def EngState.open : EngState → Bool
  | .halted => true
  | .faulted => true
  | .sys => true
  | _ => false

/-- The neighbours of tile `t` on sides 0 south, 1 east, 2 north, 3 west (R365). -/
def sideNext (t i : Nat) : Option Nat := tileNext t (if i = 0 then 2 else if i = 2 then 0 else i)

/-- A relation to the neighbour on side `i` holds. -/
def sideAny (t i : Nat) (f : Nat → Bool) : Bool :=
  match sideNext t i with
  | some u => f u
  | none => false

def State.readTile (s : State) (t o : Nat) : Nat :=
  let x := s.tile t
  let e := s.core t
  if o = 0x00 then
    atBit e.haltPend 2 + atBit e.stepping 3 + atBit x.haltIe 4 + atBit x.retMode 5 + atBit x.autostart 6 + at_ x.tapEv.toNat 16
  else if o = 0x04 then e.state.code + atBit e.deferred 3 + at_ e.cause.code 8 + at_ e.stores.length 16
  else if o = 0x08 then b2n x.fEn + at_ (s.fOut t) 4 + at_ x.collCnt 16
  else if o = 0x0C then
    x.bankCe + at_ x.localCe 8 + at_ (sat 7 x.bankUe1s) 16 + atBit x.bankFenced 20 + atBit x.ue 21 + atBit x.scrubEn 22 +
      at_ x.scrubPer.toNat 23
  else if o = 0x10 then
    x.stallLimit.toNat + atBit x.stallEn 16 + atBit x.stallFence 17 + atBit x.tripped 18 + at_ x.stallLane 20
  else if o = 0x14 then
    flags 4 (fun i => sideAny t i (s.sealed t)) + atBit ((List.range 4).any (fun i => sideAny t i (s.sealByFence t))) 4 +
      atBit ((List.range 4).any (fun i => sideAny t i (s.sealByRegion t))) 5 +
      atBit ((List.range 4).any (fun i => sideAny t i (s.sealByGate t))) 6 + at_ x.drained 16
  else if o = 0x18 then x.rate
  else if o = 0x1C then x.evt.toNat
  else if o = 0x20 then x.timerCount.toNat + atBit x.timerPeriodic 28
  else if o = 0x24 then e.epc.toNat
  else if o = 0x28 then e.eaddr.toNat
  else if 0x40 ≤ o ∧ o < 0x60 then (s.steal t ((o - 0x40) / 4)).toNat
  else if o = 0x60 then b2n x.stealNearest + at_ x.stealLast 4
  else if 0x80 ≤ o ∧ o < 0xC0 then (if e.state.open then (s.regIn t 0 ((o - 0x80) / 4)).toNat else 0)
  else 0

/-! ### A read -/

/-- The value that a load of register `a` by core `c` returns; an undefined offset reads zero (R7). -/
def State.regValue (s : State) (c a : Nat) : Word :=
  let o := regOff a
  match regBlock a with
  | 0 => word (s.readDev o)
  | 1 => word (s.readCfg o)
  | 2 => word (s.readPwr o)
  | 3 => word (if o < 0x8000 then s.readClk o else s.readPace c (o - 0x8000))
  | 4 => word (s.readPin o)
  | 5 => word (s.readSeam o)
  | 6 => word (s.readFlt o)
  | 7 => word (s.readBist o)
  | 8 => word (s.readPert o)
  | 9 => word (s.readLace o)
  | 10 => word (s.readIntc o)
  | 11 => word (s.readHk o)
  | _ => 0

/-- What a read does besides: PACE_CNTL latches and PACE_CNTH takes what is latched, UART_DATA and SPI_DATA give up a byte (R94, R328, R329). -/
def State.readEffect (c a : Nat) (s : State) : State :=
  let o := regOff a
  if regBlock a = 3 ∧ 0x8000 ≤ o ∧ (o - 0x8000) / 0x20 < 64 ∧ o % 0x20 = 0x0C then s.latchPace c ((o - 0x8000) / 0x20)
  else if regBlock a = 3 ∧ 0x8000 ≤ o ∧ (o - 0x8000) / 0x20 < 64 ∧ o % 0x20 = 0x10 then s.unlatchPace c ((o - 0x8000) / 0x20)
  else if regBlock a = 11 ∧ (o = 0 ∨ o = 0x100) then s.modUart (o / 0x100) Uart.read
  else if regBlock a = 11 ∧ (o = 0x200 ∨ o = 0x300) then s.modSpi ((o - 0x200) / 0x100) Spi.read
  else s

end Sys2Proof.Machine
end

