-- ==== Sys2Proof/Machine/RegsB.lean ====
section
/-! DEFINITION. The register map, second part: what a write to each register does (R4, R5, R7, R153,
chapter 15). Fields that the manual calls ro or reserved are ignored, w1c bits clear, rwa bits act. Where
one write sets fields and starts actions, the fields are set first, then w1c bits clear, then the actions
run in ascending bit order. -/

namespace Sys2Proof.Machine

/-- A w1c bit after a write of `v` (R5). -/
def w1c (old : Bool) (v : Word) (i : Nat) : Bool := old && !bitOf v i

/-- `f` when bit `i` of the write is 1: an rwa action (R5). -/
def act (v : Word) (i : Nat) (f : State → State) (s : State) : State := if bitOf v i then f s else s

/-- A field of a write as bits. -/
def bits (v : Word) (lo n : Nat) : BitVec n := BitVec.ofNat n (fld v lo n)

/-! ### DEV (R353, R367, R368, R405) -/

def Dev.write (o : Nat) (v : Word) (d : Dev) : Dev :=
  if o = 0x08 then { d with svcForce := bitOf v 0, dbgDis := d.dbgDis || bitOf v 1 }
  else if o = 0x14 then { d with tileThr := bits v 0 8, cfgThr := bits v 8 8 }.judge
  else if o = 0x18 then { d with ewBlocks := bits v 0 12, ewTiles := bitOf v 12 }
  else d

/-! ### CFG (R293–R301, R318–R321) -/

/-- CFG_CTRL (R294). -/
def State.writeCfgCtrl (v : Word) (s : State) : State :=
  let c1 : Cfg := { s.cfg with goldenNext := bitOf v 1 }
  let c2 : Cfg := if bitOf v 2 then
      { c1 with
        err := 0, errInRetry := false, errGolden := false, errPartial := false, errIsOffset := false
        errAddr := 0 }
    else c1
  act v 0 State.reload { s with cfg := c2 }

/-- CFG_PCMD (R305, R321): more than one command bit in a write is refused. -/
def State.writePcmd (v : Word) (s : State) : State :=
  let c1 : Cfg := { s.cfg with
    pcmdSrc := bitOf v 4, pcmdRej := w1c s.cfg.pcmdRej v 5, pcmdDoneIe := bitOf v 7
    pcmdDone := w1c s.cfg.pcmdDone v 8 }
  let s1 : State := { s with cfg := c1 }
  let k := fld v 0 4
  if k = 0 then s1
  else if k = 1 then s1.regionLoad
  else if k = 2 then s1.regionAbort
  else if k = 4 then s1.regionRelease
  else if k = 8 then s1.regionClear
  else s1.rejectCmd

/-- CFG_SCRUB: clearing en stops the pass (R290, R301). -/
def State.writeScrub (v : Word) (s : State) : State :=
  let c1 : Cfg := { s.cfg with
    scrubEn := bitOf v 0, scrubPeriod := bits v 16 16
    scrubAt := if bitOf v 0 then s.cfg.scrubAt else none }
  { s with cfg := if bitOf v 1 then { c1 with scrubCe := 0, scrubUe := 0 } else c1 }

def State.writeCfg (o : Nat) (v : Word) (s : State) : State :=
  if o = 0x04 then s.writeCfgCtrl v
  else if o = 0x14 then { s with cfg := { s.cfg with wdogMs := bits v 0 16 } }
  else if o = 0x18 then { s with cfg := { s.cfg with retryLimit := bits v 0 4 } }
  else if o = 0x20 then { s with cfg := { s.cfg with psrc := v } }
  else if o = 0x24 then { s with cfg := { s.cfg with plen := bits v 0 28 } }
  else if o = 0x28 then { s with cfg := { s.cfg with preg := bits v 0 4 } }
  else if o = 0x2C then s.writePcmd v
  else if o = 0x80 then s.writeScrub v
  else s

/-! ### PWR and CLK (R221–R225, R346–R352) -/

/-- PWR_GATEq: a bit acts on its tile when it asks for another supply than the tile has or moves to
(R346–R348). -/
def State.writeGate (q : Nat) (v : Word) (s : State) : State :=
  (List.range 32).foldl (fun s i =>
    let t := 32 * q + i
    let wanted := match (s.tile t).power with
      | .on => true
      | .restoring _ => true
      | .queued _ => true
      | .gating _ => s.pwr.powerQueue.contains t
      | _ => false
    if bitOf v i && wanted then s.gateTile t
    else if !bitOf v i && !wanted then s.powerTile t
    else s) s

/-- PWR_STAT: the w1c bits (R351). -/
def Pwr.clearStat (v : Word) (p : Pwr) : Pwr :=
  { p with
    budgetOvr := w1c p.budgetOvr v 4, therm := w1c p.therm v 5, vwarn := w1c p.vwarn v 6
    auxwarn := w1c p.auxwarn v 7, pmAlert := w1c p.pmAlert v 8, pmErr := w1c p.pmErr v 9
    cfgRej := w1c p.cfgRej v 10, gateRej := w1c p.gateRej v 11 }

def Pwr.write (o : Nat) (v : Word) (p : Pwr) : Pwr :=
  if o = 0x00 then p.writeMode v
  else if o = 0x04 then { p with budget := clamp 15 4000 (fld v 0 12) }
  else if o = 0x08 then { p with vset := to5 (fld v 0 10) }
  else if o = 0x10 then (if bitOf v 31 then { p with pnowMax := p.pnow } else p)
  else if o = 0x14 then p.writeLimit .vlim v
  else if o = 0x18 then p.writeLimit .warn v
  else if o = 0x1C then p.writeLimit .trip v
  else if o = 0x20 then p.clearStat v
  else if o = 0x24 then (if bitOf v 16 then { p with tjMax := p.tj } else p)
  else if o = 0x2C then { p with pmAddr := bits v 0 7, pec := bitOf v 7, fast := bitOf v 13 }
  else if o = 0x40 then { p with tlim := clamp 60 105 (fld v 0 8), hyst := fld v 8 4 }
  else p

def State.writePwr (o : Nat) (v : Word) (s : State) : State :=
  if 0x30 ≤ o ∧ o < 0x40 then s.writeGate ((o - 0x30) / 4) v else s.modPwr (Pwr.write o v)

/-- CLK_ROOT: n, post and frac_en are held until a relock; then pll_en, then relock (R198, R221). -/
def State.writeRoot (v : Word) (s : State) : State :=
  let s1 : State := { s with clk := { s.clk with
    held := { s.clk.held with n := fld v 0 8, post := fld v 8 2, fracEn := bitOf v 11 }
    xinMode := bitOf v 10 } }
  act v 13 State.relock (s1.writePllEn (bitOf v 12))

def State.writeClk (o : Nat) (v : Word) (s : State) : State :=
  if o = 0x00 then s.writeRoot v
  else if o = 0x04 then { s with clk := { s.clk with held := { s.clk.held with frac := fld v 0 24 } } }
  else if o = 0x08 then { s with clk := { s.clk with
    unlock := w1c s.clk.unlock v 5, cfgRej := w1c s.clk.cfgRej v 6, xinFail := w1c s.clk.xinFail v 7 } }
  else if 0x10 ≤ o ∧ o < 0x30 then s.writeEc ((o - 0x10) / 4) v
  else if 0x30 ≤ o ∧ o < 0x40 then s.writePhase ((o - 0x30) / 4) v
  else s

/-! ### PACE (R91–R96) -/

/-- PACE_LEAD (R93): a depth takes effect at the next tick. -/
def Pacer.writeLead (v : Word) (p : Pacer) : Pacer :=
  let p1 : Pacer := { p with nextDepth := some (fld v 0 4) }
  if bitOf v 24 then p1.clearLeadMax else p1

/-- PACE_STAT (R96). -/
def Pacer.clearStat (v : Word) (p : Pacer) : Pacer :=
  { p with
    deficit := w1c p.deficit v 1, debtOvf := w1c p.debtOvf v 2, cfgRej := w1c p.cfgRej v 4 }

def State.writePace (o : Nat) (v : Word) (s : State) : State :=
  let n := o / 0x20
  let r := o % 0x20
  if 64 ≤ n then s
  else if r = 0x00 then s.writePaceCtrl n v
  else if r = 0x04 then s.writePaceInc n v
  else if r = 0x08 then s.modPacer n (Pacer.writeLead v)
  else if r = 0x18 then s.modPacer n (Pacer.clearStat v)
  else s

/-! ### PIN and SEAM (R216–R219, R251–R254) -/

/-- w1c on pend of `n` pins from pin `p` on (R253). -/
def State.clearPends (p n : Nat) (v : Word) (s : State) : State :=
  (List.range n).foldl (fun s i => if bitOf v i then s.modPin (p + i) Pin.clearPend else s) s

def State.writePinBank (b r : Nat) (v : Word) (s : State) : State :=
  if r = 0x00 then s.clearPends (48 * b) 32 v
  else if r = 0x04 then s.modPinBank b (fun k => { k with mask := v })
  else if r = 0x08 then s.modPinBank b (fun k => { k with cfgRej := w1c k.cfgRej v 9 })
  else if r = 0x0C then s.clearPends (48 * b + 32) 16 v
  else if r = 0x10 then s.modPinBank b (fun k => { k with
    maskH := bits v 0 16, evTile := bits v 16 7, evEn := bitOf v 23 })
  else s

def State.writePin (o : Nat) (v : Word) (s : State) : State :=
  if o < 0x900 then s.writePinCfg (o / 4) v
  else if 0x1000 ≤ o ∧ o < 0x1900 then s.writePinIrq ((o - 0x1000) / 4) v
  else if 0x2000 ≤ o ∧ o < 0x2300 then s.writePinBank ((o - 0x2000) / 0x40) (o % 0x40) v
  else if 0x3000 ≤ o ∧ o < 0x3048 then s.writeLatches false ((o - 0x3000) / 4) v
  else if 0x3080 ≤ o ∧ o < 0x30C8 then s.writeLatches true ((o - 0x3080) / 4) v
  else s

/-- SEAM_STAT (R217). -/
def Seam.clearStat (v : Word) (g : Seam) : Seam :=
  { g with
    epochErr := w1c g.epochErr v 10, overrun := w1c g.overrun v 11, underrun := w1c g.underrun v 12
    miss := w1c g.miss v 13, cfgRej := w1c g.cfgRej v 16 }

/-- SEAM_GRP (R212, R219): the group is set before grp_rst acts. -/
def State.writeSeamGrp (i : Nat) (v : Word) (s : State) : State :=
  let s1 := s.modSeam i (fun g => { g with group := bits v 0 4, errIe := bitOf v 27 })
  let s2 := act v 4 (fun s => s.resetGroup i) s1
  let s3 := act v 5 (fun s => s.modSeam i Seam.resetF) s2
  let s4 := act v 6 (fun s => s.modSeam i Seam.resetE) s3
  act v 7 (fun s => s.modSeam i Seam.clearCounts) s4

def State.writeSeam (o : Nat) (v : Word) (s : State) : State :=
  let i := o / 0x10
  let r := o % 0x10
  if 256 ≤ i then s
  else if r = 0x0 then s.writeSeamCfg i v
  else if r = 0x4 then s.modSeam i (Seam.clearStat v)
  else if r = 0xC then s.writeSeamGrp i v
  else s

/-! ### FLT, BIST, PERT and LACE (R190–R195, R369–R371, R382–R384) -/

def Flt.write (o : Nat) (v : Word) (f : Flt) : Flt :=
  if o = 0x00 then { f with
    new := w1c f.new v 0, fresh := if bitOf v 0 then 0 else f.fresh, lost := w1c f.lost v 1
    tileFence := w1c f.tileFence v 2, engFence := w1c f.engFence v 3 }
  else if o = 0x04 then { f with
    trapFence := bitOf v 0, wdogFence := bitOf v 1, adoptFixed := bitOf v 2, adoptEng := bits v 3 8 }
  else if o = 0x08 then { f with ewdog := bits v 0 16 }
  else f

def State.writeFlt (o : Nat) (v : Word) (s : State) : State :=
  if 0x10 ≤ o ∧ o < 0x20 then
    (List.range 32).foldl (fun s i => if bitOf v i then s.askTileFence (8 * (o - 0x10) + i) else s) s
  else if 0x20 ≤ o ∧ o < 0x30 then
    (List.range 32).foldl (fun s i => s.writeEfence (8 * (o - 0x20) + i) (bitOf v i)) s
  else if o = 0x30 then act v 7 State.clearLog s
  else { s with flt := s.flt.write o v }

/-- The fields and w1c bits of BIST (R382). -/
def Bist.write (o : Nat) (v : Word) (b : Bist) : Bist :=
  if o = 0x00 then { b with
    doneIe := bitOf v 2, bgIe := bitOf v 3, refUser := bitOf v 4, test := bits v 8 8, target := bits v 16 8 }
  else if o = 0x04 then { b with
    done := w1c b.done v 6, bgFail := w1c b.bgFail v 7, rej := w1c b.rej v 24 }
  else if o = 0x0C then { b with ref := v }
  else if o = 0x14 then { b with policyLocal := bitOf v 0, policyAnalog := bitOf v 1 }
  else if o = 0x18 then { b with bgEn := bits v 0 4, memPeriod := bits v 8 8, analogPeriod := bits v 16 8 }
  else b

def State.writeBist (o : Nat) (v : Word) (s : State) : State :=
  let s1 : State := { s with bist := s.bist.write o v }
  if o = 0x00 then act v 1 State.stopDemand (act v 0 State.startDemand s1) else s1

def Pert.write (o : Nat) (v : Word) (p : Pert) : Pert :=
  if o = 0x04 then { p with en := bits v 0 7 }
  else if o = 0x10 then { p with delay := v &&& 0x3FFFFFFF#32 }
  else if o = 0x14 then { p with bp := v &&& 0x0FFFFFFF#32 }
  else if o = 0x18 then { p with seam := v &&& 0x000001FF#32 }
  else if o = 0x1C then { p with lace := v &&& 0x000000F3#32 }
  else if o = 0x20 then { p with ecc := v &&& 0x03FFFFFF#32 }
  else if o = 0x28 then { p with pace := v &&& 0x00000F3F#32 }
  else p

/-- A write to PERT other than PERT_KEY breaks the key sequence, and acts only while PERT is open
(R383, R384). One at an undefined offset breaks it too (DESIGN CHOICE, log entry 60). -/
def State.writePert (o : Nat) (v : Word) (s : State) : State :=
  if o = 0 then s.writeKey v
  else
    let k := s.pert.key
    let s1 : State := { s with pert := { s.pert with key := if k = 1 then 0 else if k = 3 then 2 else k } }
    if !s1.pertOpen then s1
    else
      let s2 : State := { s1 with pert := s1.pert.write o v }
      if o = 0x1C then act v 8 State.armLace s2
      else if o = 0x20 then act v 26 State.armEcc s2
      else if o = 0x24 then act v 1 State.pertVaux (act v 0 State.pertVcore s2)
      else s2

/-- LACE_NIRQ (R195). -/
def Lace.writeNirq (m : Nat) (v : Word) (l : Lace) : Lace :=
  { l with
    nirqPend := SMap.write (fun _ => (0 : BitVec 16)) l.nirqPend m
      (SMap.read (fun _ => (0 : BitVec 16)) l.nirqPend m &&& ~~~(bits v 0 16))
    nirqEn := SMap.write (fun _ => (0 : BitVec 16)) l.nirqEn m (bits v 16 16) }

def Lace.write (o : Nat) (v : Word) (l : Lace) : Lace :=
  if o = 0x00 then { l with hold := bitOf v 0, reroute := bitOf v 1, adoptEv := bits v 2 4 }
  else if o = 0x0C then
    { l with retryLimit := bits v 16 3 }
  else if o = 0x10 then { l with
    descRej := w1c l.descRej v 0, eyeFault := w1c l.eyeFault v 1, entryUe := w1c l.entryUe v 2
    errLink := w1c l.errLink v 3, retryTimeout := w1c l.retryTimeout v 4 }
  else if 0x100 ≤ o ∧ o < 0x200 then
    let m := (o - 0x100) / 0x40
    let r := o % 0x40
    if r = 0x8 then l.writeNirq m v else l
  else l

def State.writeLace (o : Nat) (v : Word) (s : State) : State :=
  if o = 0x08 then s.writeLaceTick v
  else
    let s1 : State := { s with lace := s.lace.write o v }
    if o = 0x0C then act v 20 State.clearRetries s1
    else if 0x100 ≤ o ∧ o < 0x200 ∧ o % 0x40 = 0xC then
      act v 1 (fun s => s.clearWaitMax ((o - 0x100) / 0x40)) (act v 0 (fun s => s.clearNops ((o - 0x100) / 0x40)) s1)
    else s1

/-! ### INTC and HK (R326–R332) -/

/-- INTC_PRIO, INTC_EN, INTC_VBASE, INTC_LEVEL and INTC_ACK; source 0 is fixed (R327). -/
def Intc.write (o : Nat) (v : Word) (x : Intc) : Intc :=
  if o < 0x100 then
    (List.range 4).foldl (fun (x : Intc) m =>
      if o + m = 0 then x
      else { x with level := SMap.write (fun _ => (0 : BitVec 4)) x.level (o + m) (bits v (8 * m) 4) }) x
  else if 0x120 ≤ o ∧ o < 0x140 then
    (List.range 32).foldl (fun (x : Intc) i =>
      let n := 8 * (o - 0x120) + i
      if n = 0 then x else { x with en := SMap.write (fun _ => false) x.en n (bitOf v i) }) x
  else if o = 0x140 then { x with vbase := bits v 12 20 }
  else if o = 0x144 then { x with thr := bits v 0 4 }
  else if o = 0x148 then x.ack (fld v 0 8)
  else x

def Uart.writeReg (r : Nat) (v : Word) (u : Uart) : Uart :=
  if r = 0x0 then u.write (bits v 0 8)
  else if r = 0x4 then { u with
    rxOvf := w1c u.rxOvf v 16, frameErr := w1c u.frameErr v 17, parityErr := w1c u.parityErr v 18 }
  else if r = 0x8 then { u with ctrl := v &&& 0x00000F3F#32 }.pump
  else if r = 0xC then { u with baud := bits v 0 16 }
  else u

def Spi.writeReg (r : Nat) (v : Word) (u : Spi) : Spi :=
  if r = 0x0 then u.write (bits v 0 8)
  else if r = 0x4 then { u with rxOvf := w1c u.rxOvf v 17 }
  else if r = 0x8 then { u with ctrl := v &&& 0x00FFFF1F#32 }.pump
  else u

def I2c.writeReg (r : Nat) (v : Word) (u : I2c) : I2c :=
  if r = 0x0 then { u with data := bits v 0 8 }
  else if r = 0x4 then u.command v
  else if r = 0x8 then { u with arbLost := w1c u.arbLost v 2, done := w1c u.done v 3 }
  else if r = 0xC then { u with ctrl := v &&& 0x0FFF0003#32 }
  else u

def Timer.writeReg (r : Nat) (v : Word) (x : Timer) : Timer :=
  if r = 0x0 then { x with en := bitOf v 0, periodic := bitOf v 1, ie := bitOf v 2 }
  else if r = 0x4 then x.write v
  else if r = 0xC then { x with expired := w1c x.expired v 0 }
  else x

/-- A write to a register of SPI `n`; SPI_CTRL sets the levels of CS_N and SCK (R237, R329). -/
def State.writeSpi (n r : Nat) (v : Word) (s : State) : State :=
  ((s.modSpi n (Spi.writeReg r v)).refreshAlt (76 + 4 * n)).refreshAlt (79 + 4 * n)

def State.writeHk (o : Nat) (v : Word) (s : State) : State :=
  if o < 0x200 then s.modUart (o / 0x100) (Uart.writeReg (o % 0x100) v)
  else if o < 0x400 then s.writeSpi ((o - 0x200) / 0x100) (o % 0x100) v
  else if o < 0x600 then s.modI2c ((o - 0x400) / 0x100) (I2c.writeReg (o % 0x100) v)
  else if o < 0x640 then s.modTimer ((o - 0x600) / 0x10) (Timer.writeReg (o % 0x10) v)
  else if o = 0x700 then s.modQwdog (Qwdog.write v)
  else if o = 0x704 then s.kick v
  else if o = 0x708 then s.modQwdog (fun w => { w with early := w1c w.early v 16, fired := w1c w.fired v 17 })
  else s

/-! ### TILE (R120, R121, R153–R158, R179, R180, R364, R365) -/

/-- TILE_CTRL: ret_mode, start, resume and step are Quince's alone (R153, R154). -/
def State.writeTileCtrl (c t : Nat) (v : Word) (s : State) : State :=
  let s1 := s.modTile t (fun x => { x with
    haltIe := bitOf v 4, retMode := if c = 128 then bitOf v 5 else x.retMode, autostart := bitOf v 6
    tapEv := bits v 16 16 })
  let s2 := if c = 128 then act v 1 (State.resume t) (act v 0 (State.start t) s1) else s1
  let s3 := act v 2 (State.halt t) s2
  if c = 128 then act v 3 (State.stepEngine t) s3 else s3

/-- TILE_ECC: clearing scrub_en stops the patrol (R118, R121). -/
def Tile.writeEcc (v : Word) (x : Tile) : Tile :=
  { x with
    ue := w1c x.ue v 21, scrubEn := bitOf v 22, scrubPer := bits v 23 2
    patrol := if bitOf v 22 then x.patrol else { active := false, next := 0, per := 0 }
    bankCe := if bitOf v 25 then 0 else x.bankCe, localCe := if bitOf v 25 then 0 else x.localCe }

/-- TILE_STALL: fence is Quince's alone (R153, R364). -/
def Tile.writeStall (c : Nat) (v : Word) (x : Tile) : Tile :=
  { x with
    stallLimit := bits v 0 16, stallEn := bitOf v 16
    stallFence := if c = 128 then bitOf v 17 else x.stallFence, tripped := w1c x.tripped v 18 }

/-- The other registers of the TILE block. -/
def Tile.write (c o : Nat) (v : Word) (x : Tile) : Tile :=
  if o = 0x08 then { x with collCnt := if bitOf v 8 then 0 else x.collCnt }
  else if o = 0x0C then x.writeEcc v
  else if o = 0x10 then x.writeStall c v
  else if o = 0x14 then { x with drained := if bitOf v 7 then 0 else x.drained }
  else if o = 0x1C then { x with evt := x.evt &&& ~~~(bits v 0 16) }
  else if 0x40 ≤ o ∧ o < 0x60 then
    { x with steal := SMap.write (fun _ => (0 : Word)) x.steal ((o - 0x40) / 4) (v &&& 0x80003FFF#32) }
  else if o = 0x60 then { x with stealNearest := bitOf v 0, stealLast := fld v 4 3 }
  else x

/-- A write by core `c` to offset `o` of the TILE block of tile `t`. -/
def State.writeTile (c t o : Nat) (v : Word) (s : State) : State :=
  if o = 0x00 then s.writeTileCtrl c t v
  else if o = 0x20 then s.writeTileTimer t v
  else if o = 0x24 then (if c = 128 ∧ (s.core t).epcAt ≠ some s.time then s.modCore t (fun x => { x with epc := v &&& 0xFFFFFFFC#32 }) else s)
  else if 0x80 ≤ o ∧ o < 0xC0 then
    (if c = 128 ∧ (s.core t).state.open then s.setRegIn t 0 ((o - 0x80) / 4) v else s)
  else s.modTile t (Tile.write c o v)

/-! ### A write -/

/-- A write of word `v` to register address `a`; an undefined offset is left alone (R7). -/
def State.writeReg (a : Nat) (v : Word) (s : State) : State :=
  let o := regOff a
  match regBlock a with
  | 0 => { s with dev := s.dev.write o v }
  | 1 => s.writeCfg o v
  | 2 => s.writePwr o v
  | 3 => if o < 0x8000 then s.writeClk o v else s.writePace (o - 0x8000) v
  | 4 => s.writePin o v
  | 5 => s.writeSeam o v
  | 6 => s.writeFlt o v
  | 7 => s.writeBist o v
  | 8 => s.writePert o v
  | 9 => s.writeLace o v
  | 10 => { s with intc := s.intc.write o v }
  | 11 => s.writeHk o v
  | _ => s

/-- A write of a register word by core `c`, when R153 lets it. -/
def State.writeTarget (c : Nat) (tg : Target) (v : Word) (s : State) : State :=
  if s.mayWrite c tg then
    match tg with
    | .reg a => s.writeReg a v
    | .tileReg t o => s.writeTile c t o v
    | _ => s
  else s

/-! ### The meanings -/

/-- REGISTER_WRITE (R4, R5, R7, R8): the write that a store of a whole register word brings. -/
def execRegisterWrite (c : CoreId) (addr data : Word) (s : State) : Result :=
  .next (if addr.toNat % 4 = 0 then s.writeTarget c (target c addr) data else s)

end Sys2Proof.Machine
end

