-- ==== Sys2Proof/Machine/Cores.lean ====
section
/-! DEFINITION. The instructions that reach beyond a core's registers: loads and stores, taps, events,
CSRs, pins and the system instructions (R132–R151, R162–R166). -/

namespace Sys2Proof.Machine

/-! ### Loads (R132, R135, R137, R406) -/

/-- The reply of a load reaches its register, or the load traps (R132, R135, R151). -/
def State.finishLoad (c : Nat) (l : Load) (r : Reply) (s : State) : State :=
  match r with
  | .data d =>
    ((s.modCore c (fun x => { x.count with load := none })).setReg c l.rd
      (extract l.addr d l.width l.signed)).boundary c
  | .err e => (s.undoLoad c).trap c e l.pc l.addr

/-- The load of core `c` as it issues. -/
def Core.loadOf (x : Core) (addr : Word) (w : MemWidth) (signed : Bool) (rd : Nat) : Load where
  addr := addr
  width := w
  signed := signed
  rd := rd
  pc := x.pc
  regs := x.regs
  instret := x.instret
  reply := none

/-- The reply that Quince holds for a load of address `a` (R167). -/
def State.heldLoad (s : State) (c : Nat) (a : Word) : Option Reply :=
  match (if c = 128 then s.heldNow else none) with
  | some (.load addr r) => if addr = a then some r else none
  | _ => none

/-- A load issues: checks 1 to 3 of R406 first; then it is outstanding, and the pc goes on (R135). On
Quince, the data of the same load, performed and then abandoned, is taken from the held slot, and nothing is
accessed; a held result that no instruction matches stays (R167; DESIGN CHOICE, log entry 91). -/
def loadBody (width : MemWidth) (signed : Bool) (c : Nat) (w : Word) (s : State) : State :=
  let a := s.eaI c w
  let l := (s.core c).loadOf a width signed (rdF w)
  let s1 := s.modCore c (fun x => { x with load := some l, pc := x.pc + 4 })
  match s.heldLoad c a with
  | some r => s1.dropHeld.finishLoad c l r
  | none => match s.accessCheck c a width .load with
    | some e => s.trap c e (s.core c).pc a
    | none => s1

/-- A posted store of the core to the word of `addr` is still to be performed. -/
def State.storeWaits (s : State) (c : Nat) (addr : Word) : Bool :=
  (s.core c).stores.any (fun x => wordKey c x.addr == wordKey c addr)

/-- A load of word `wa` of memory is performed, in a bank through port P, and its reply returns (R101, R135). -/
def State.loadMem (c wa : Nat) (l : Load) (s : State) : State :=
  match memOf wa with
  | .bank t =>
    let s1 := s.throughPort t wa (.load (Fin.ofNat 129 c))
    match (s1.core c).load with
    | some x => (match x.reply with
      | some r => s1.finishLoad c x r
      | none => s1)
    | none => s1
  | _ =>
    let q := s.loadWord c wa l.addr
    q.2.finishLoad c l q.1

/-- LOAD_RESPONSE: the access is performed, unless an arbitration window has performed it, and its data
or its error returns. A load of a word that a posted store covers takes the store's data; a load of a
register waits for the core's stores to it (R108, R115, R135, log entry 12). -/
def State.loadResponse (c : Nat) (u : Option Bool) (s : State) : State :=
  match (s.core c).load with
  | none => s
  | some l =>
    match l.reply with
    | some r => s.finishLoad c l r
    | none =>
      let p := s.posted c l.addr
      match target c l.addr with
      | .mem wa =>
        if s.forwarded c l then s.finishLoad c l (.data p.2)
        else (s.upset wa u).loadMem c wa l
      | .desc off => s.finishLoad c l (.data (mergeBytes (s.desc (off / 4)) p.2 p.1))
      | .tileReg t o =>
        if s.storeWaits c l.addr then s else s.finishLoad c l (.data (word (s.readTile t o)))
      | .reg a =>
        if s.storeWaits c l.addr then s
        else (s.readEffect c a).finishLoad c l (.data (s.regValue c a))
      | .rom n => s.finishLoad c l (.data (Config.bootRom n))
      | _ => s.finishLoad c l (.err .access)

/-- The read of register `a` for the outstanding load of core `c`, if it names that register: its side effect
happens, and the data is on its way back (R94, R167, R328). Without such a load the side effect alone. -/
def State.performReg (c a : Nat) (s : State) : State :=
  match (s.core c).load with
  | some l =>
    if l.reply.isNone && target c l.addr == .reg a && !s.storeWaits c l.addr then
      (s.readEffect c a).modCore c (fun x => { x with load := some { l with reply := some (.data (s.regValue c a)) } })
    else s.readEffect c a
  | none => s.readEffect c a

/-! ### Stores (R132, R133, R135, R137) -/

/-- A store retires into the posted-store buffer, once a place of the four is free. A misaligned address
inside the map traps with ALIGN at once; any other refusal comes back as an error response (R137, R406). -/
def storeBody (width : MemWidth) (c : Nat) (w : Word) (s : State) : State :=
  let a := s.eaS c w
  if (mapCheck c a).isNone ∧ (alignCheck a width).isSome then s.trap c .align (s.core c).pc a
  else if 4 ≤ (s.core c).stores.length then s
  else (s.modCore c (fun x => { x with
    stores := x.stores ++ [{ addr := a, width := width, data := s.reg c (rbS w) }] })).retire c (s.pc4 c)

/-- A store to word `wa` of memory is performed, in a bank through port P (R101). -/
def State.storeMem (c wa : Nat) (x : Store) (s : State) : State :=
  match memOf wa with
  | .bank t => s.throughPort t wa (.store (Fin.ofNat 129 c))
  | _ =>
    let q := s.storeWord wa x
    q.2.storeDone c x q.1

/-- STORE_PERFORM: the oldest posted store is performed at its target and leaves the buffer. -/
def State.storePerform (c : Nat) (s : State) : State :=
  match (s.core c).stores with
  | [] => s
  | x :: _ =>
    match target c x.addr with
    | .mem wa => s.storeMem c wa x
    | .desc off =>
      (s.storeDone c x none).storeDesc c off (lanesOf x.addr x.width) (laneData x.addr x.data)
    | .tileReg t o =>
      if x.width = .word ∧ s.mayWrite c (.tileReg t o) then (s.storeDone c x none).writeTile c t o x.data
      else s.storeDone c x (some .access)
    | .reg a =>
      if x.width = .word ∧ s.mayWrite c (.reg a) then (s.storeDone c x none).writeReg a x.data
      else s.storeDone c x (some .access)
    | _ => s.storeDone c x (some .access)

/-- STORE_ERROR_RESPONSE: the deferred trap, at an instruction boundary of a core that runs (R137). -/
def State.storeError (c : Nat) (s : State) : State :=
  let x := s.core c
  match x.storeErr with
  | none => s
  | some (e, a) =>
    let s1 := s.modCore c (fun y => { y with storeErr := none })
    if x.load.isSome ∨ x.wait.isSome then s
    else if c = 128 then
      (if s.quince.stopped ∨ (s.quince.dbgHalted ∧ ¬ x.stepping) then s else s1.trapQuince e x.pc a)
    else if x.state = .running then s1.stopCobbler c e x.pc a true
    else s

/-! ### Taps (R144–R146) -/

/-- The tap of a tap address, or the refusal of R144: STAT (offset 4) for TRD alone, and DATA not on a tap
that a seam or a pin uses. -/
def State.tapOf (s : State) (c : Nat) (a : Word) (stat : Bool) : Option (Nat × Nat × Bool) :=
  match target c a with
  | .tap t j off =>
    if !(off = 0 || (stat && off = 4)) || !s.tileServes t || s.tapIsF t j then none
    else if off = 0 ∧ s.tapTaken t j then none
    else some (t, j, off = 4)
  | _ => none

/-- A core that waits to read (`write` false) or to write tap `j` of tile `t`. -/
def State.waitsAt (s : State) (t j : Nat) (write : Bool) (c : Nat) : Bool :=
  match (s.core c).wait with
  | some (.tapRead t1 j1 _ _ _) => !write && t1 == t && j1 == j
  | some (.tapWrite t1 j1 _) => write && t1 == t && j1 == j
  | _ => false

/-- The core that the tap serves next, in the order of arrival: readers among readers and writers among writers,
for the outward and the inward lanes are apart (R146; DESIGN CHOICE, log entry 35). -/
def State.firstAt (s : State) (t j : Nat) (write : Bool) : Option Nat := s.tapQueue.find? (s.waitsAt t j write)

/-- The core waits at a tap. -/
def State.joinTap (c : Nat) (w : Wait) (s : State) : State :=
  let s1 := s.modCore c (fun x => { x with wait := some w, state := if c = 128 then x.state else .waiting })
  { s1 with tapQueue := s1.tapQueue ++ [c] }

/-- A tap instruction that has been performed retires: rd takes the word, and then rs the status OK, which
remains where both are one register (R142, R145; DESIGN CHOICE, log entry 88). -/
def State.tapRetire (c rd : Nat) (rs : Option Nat) (d : Word) (s : State) : State :=
  let s1 := s.setReg c rd d
  let s2 := match rs with
    | some n => s1.setReg c n (statusWord stOk 0)
    | none => s1
  s2.retire c (s.pc4 c)

/-- The core's tap instruction has been performed, and its answer is on its way (R167). -/
def State.tapAnswers (c : Nat) (write : Bool) (t j rd : Nat) (rs : Option Nat) (d : Word) (s : State) : State :=
  (s.leaveTap c).modCore c (fun x => { x with wait := some (.tapDone write t j rd rs d) })

/-- A word is taken from the outward lanes and the read retires (R145). -/
def State.takeTap (c t j rd : Nat) (rs : Option Nat) (d : BitVec 16) (s : State) : State :=
  ((s.takeOutward t j (List.range 16)).leaveTap c).tapRetire c rd rs (word d.toNat)

/-- The result that Quince holds for a read or a write of the tap whose DATA is at `a` (R144, R167). -/
def State.heldTap (s : State) (c : Nat) (write : Bool) (a : Word) : Option Word :=
  match (if c = 128 then s.heldNow else none) with
  | some (.tap w t j d) => if w = write ∧ target c a = .tap t j 0 then some d else none
  | _ => none

/-- A read of DATA: at once when a word is complete and nobody is before it, else it waits. -/
def State.readTap (c t j rd : Nat) (rs ticks : Option Nat) (s : State) : State :=
  match (if (s.firstAt t j false).isNone then s.tapWord t j else none) with
  | some d => s.takeTap c t j rd rs d
  | none => s.joinTap c (.tapRead t j rd rs ticks)

/-- The output register holds a word. -/
def State.tapBusy (s : State) (t j : Nat) : Bool := (s.tile t).tapTx.any (fun p => p.1 == j)

/-- STAT: rx_ready and tx_busy; zero for a tap that a seam or a pin uses (R144, R145). -/
def State.tapStat (s : State) (t j : Nat) : Nat :=
  if s.tapTaken t j then 0
  else b2n (s.tapWord t j).isSome + atBit (s.tapBusy t j) 1

def trdBody (c : Nat) (w : Word) (s : State) : State :=
  let a := s.eaI c w
  match s.heldTap c false a with
  | some d => s.dropHeld.tapRetire c (rdF w) none d
  | none => match s.tapOf c a true with
    | none => s.trap c .access (s.core c).pc a
    | some (t, j, true) => (s.setReg c (rdF w) (word (s.tapStat t j))).retire c (s.pc4 c)
    | some (t, j, false) => s.readTap c t j (rdF w) none none

/-- TRDW: rb = 0 makes one attempt; any other value expires at the (rb + 1)-th tick boundary (R145). -/
def trdwBody (c : Nat) (w : Word) (s : State) : State :=
  let a := s.reg c (raF w)
  let n := (s.reg c (rbF w)).toNat
  match s.heldTap c false a with
  | some d => s.dropHeld.tapRetire c (rdF w) (some (fld w 0 4)) d
  | none => match s.tapOf c a false with
    | none => s.trap c .access (s.core c).pc a
    | some (t, j, _) =>
      if n = 0 ∧ ((s.firstAt t j false).isSome ∨ (s.tapWord t j).isNone) then
        (s.setReg c (fld w 0 4) (statusWord stTimeout 0)).retire c (s.pc4 c)
      else s.readTap c t j (rdF w) (some (fld w 0 4)) (some (n + 1))

/-- The tap's output register takes a word and offers it (R145). -/
def State.fillTap (t j : Nat) (d : BitVec 16) (s : State) : State :=
  (s.modTile t (fun x => { x with tapTx := SMap.insert (SMap.erase x.tapTx j) j d })).offerTap t j d

/-- The tap's output register takes a word, and the TWR retires (R145). -/
def State.putTap (c t j : Nat) (d : BitVec 16) (s : State) : State :=
  ((s.fillTap t j d).leaveTap c).retire c (s.pc4 c)

def twrBody (c : Nat) (w : Word) (s : State) : State :=
  let a := s.eaS c w
  let d := BitVec.ofNat 16 (s.reg c (rbS w)).toNat
  if !s.released c then s
  else if (s.heldTap c true a).isSome then s.dropHeld.tapRetire c 0 none 0
  else match s.tapOf c a false with
    | none => s.trap c .access (s.core c).pc a
    | some (t, j, _) =>
      if s.tapBusy t j ∨ (s.firstAt t j true).isSome then s.joinTap c (.tapWrite t j d)
      else s.putTap c t j d

/-- The address of DATA of tap `j` of tile `t` (R144). -/
def tapAddr (t j : Nat) : Word := word (0x04000000 + t * 0x10000 + j * 0x1000)

/-- TAP_WORD_TAKE: the reader whose turn it is takes the complete word. At a tap that no longer serves, the
wait ends with cause ACCESS (R23, R144). With `onWay`, the answer to Quince is still on its way, and a later
TAP_WORD_TAKE brings it (R167). -/
def State.tapWordTake (c : Nat) (onWay : Bool) (s : State) : State :=
  match (s.core c).wait with
  | some (.tapDone _ _ _ rd rs d) => s.tapRetire c rd rs d
  | some (.tapRead t j rd rs _) =>
    if (s.tapOf c (tapAddr t j) false).isNone then
      (s.leaveTap c).trap c .access (s.core c).pc (tapAddr t j)
    else if s.firstAt t j false ≠ some c then s
    else match s.tapWord t j with
      | some d =>
        if onWay && c == 128 then (s.takeOutward t j (List.range 16)).tapAnswers c false t j rd rs (word d.toNat)
        else s.takeTap c t j rd rs d
      | none => s
  | _ => s

/-- TAP_REGISTER_FREE: every lane of the word has completed its handshake; the writer whose turn it is
places its word, or ends with cause ACCESS when the tap serves no more. With `onWay`, Quince's writer still
waits for its answer, which a TAP_WORD_TAKE brings (R167). -/
def State.tapRegisterFree (t j : Nat) (onWay : Bool) (s : State) : State :=
  if s.tapBusy t j ∧ !s.tapFree t j then s
  else
    let s1 := s.modTile t (fun x => { x with tapTx := SMap.erase x.tapTx j })
    match s1.firstAt t j true with
    | none => s1
    | some c =>
      match (s1.core c).wait with
      | some (.tapWrite _ _ d) =>
        if (s1.tapOf c (tapAddr t j) false).isNone then
          (s1.leaveTap c).trap c .access (s1.core c).pc (tapAddr t j)
        else if onWay && c == 128 then (s1.fillTap t j d).tapAnswers c true t j 0 none 0
        else s1.putTap c t j d
      | _ => s1

/-- TRDW_TIMEOUT: the timeout wins, and the word stays on the lanes (R143, R145). -/
def State.trdwTimeout (c : Nat) (s : State) : State :=
  match (s.core c).wait with
  | some (.tapRead _ _ _ (some rs) (some 0)) =>
    ((s.setReg c rs (statusWord stTimeout 0)).leaveTap c).retire c (s.pc4 c)
  | _ => s

/-! ### Events (R147, R148) -/

/-- The bits that an EVW with mask `m` finds. -/
def State.eventsFor (s : State) (c : Nat) (m : BitVec 16) : BitVec 16 := (s.tile c).evt &&& m

/-- EVW returns the bits `v`, and clears them unless it peeks. -/
def State.takeEvents (c rd : Nat) (peek : Bool) (v : BitVec 16) (s : State) : State :=
  let s1 := if peek then s else s.modTile c (fun x => { x with evt := x.evt &&& ~~~v })
  (s1.setReg c rd (word v.toNat)).retire c (s.pc4 c)

def evwBody (c : Nat) (w : Word) (s : State) : State :=
  if c = 128 then
    (if s.ready.isSome then (s.setReg 128 (rdF w) 0).retire 128 (s.pc4 128)
     else s.modCore 128 (fun x => { x with wait := some (.evwQuince (rdF w)) }))
  else
    let m := BitVec.ofNat 16 (s.reg c (raF w)).toNat
    let v := s.eventsFor c m
    if m = 0 ∨ v ≠ 0 then s.takeEvents c (rdF w) (bitOf w 0) v
    else s.modCore c (fun x => { x with wait := some (.evw m (rdF w) (bitOf w 0)), state := .waiting })

/-- EVW_WAKE. -/
def State.evwWake (c : Nat) (s : State) : State :=
  match (s.core c).wait with
  | some (.evw m rd peek) =>
    if s.eventsFor c m = 0 then s else s.takeEvents c rd peek (s.eventsFor c m)
  | some (.evwQuince rd) =>
    if s.ready.isSome then (s.setReg 128 rd 0).retire 128 (s.pc4 128) else s
  | _ => s

def evsetBody (c : Nat) (w : Word) (s : State) : State :=
  let e := s.reg c (raF w)
  if !s.released c then s
  else if 127 < e.toNat then s.trap c .access (s.core c).pc e
  else (s.setEvents e.toNat (BitVec.ofNat 16 (s.reg c (rbF w)).toNat)).retire c (s.pc4 c)

/-! ### SYS, HALT, TRAP, FENCE, IRET (R136, R150, R151, R165, R166) -/

/-- SYS, HALT and TRAP: they start once every earlier store has been performed; EPC is the next
instruction and EADDR imm26. On Quince each is a trap (R135, R150, R165). -/
def stopBody (cause : Cause) (c : Nat) (w : Word) (s : State) : State :=
  if s.released c then s.trap c cause (s.pc4 c) (imm26 w) else s

/-- FENCE: every earlier access has been performed; words fetched before are discarded (R136). -/
def fenceBody (c : Nat) (_w : Word) (s : State) : State :=
  if s.released c then (s.modCore c (fun x => { x with fetchEpoch := s.memEpoch })).retire c (s.pc4 c) else s

def iretBody (c : Nat) (w : Word) (s : State) : State :=
  match s.leaveContext with
  | some s1 => (s1.modCore c Core.count).boundary c
  | none => s.trap c .illegal (s.core c).pc w

/-! ### CSRs (R149, R163) -/

/-- STATUS (R163). -/
def Quince.status (q : Quince) : Word :=
  word (b2n q.ie + atBit q.pie 1 + atBit q.exc 2 + atBit q.inBank1 3 + atBit q.inBank2 4 + at_ (q.lvl % 16) 8)

/-- A CSR that core `c` can read; none is ILLEGAL. -/
def State.csr (s : State) (c n : Nat) : Option Word :=
  let x := s.core c
  let q := s.quince
  if n = 0x000 then some (word c)
  else if n = 0x001 then some (word x.instret)
  else if n = 0x002 then some x.instretLatch
  else if n = 0x003 then some (word s.time)
  else if n = 0x004 then some x.timeLatch
  else if n = 0x008 then some x.scratch0
  else if n = 0x009 then some x.scratch1
  else if c ≠ 128 then none
  else if n = 0x100 then some q.status
  else if n = 0x101 then some q.vbase
  else if n = 0x102 then some q.epc
  else if n = 0x103 then some (word q.cause.code)
  else if n = 0x104 then some q.eaddr
  else if n = 0x105 then some q.ipc1
  else if n = 0x106 then some q.ipc2
  else none

/-- A read of INSTRET_L or TIME_L latches the upper half (R149). -/
def State.csrLatch (s : State) (c n : Nat) : State :=
  if n = 0x001 then s.modCore c (fun x => { x with instretLatch := word (x.instret / 2 ^ 32) })
  else if n = 0x003 then s.modCore c (fun x => { x with timeLatch := word (s.time / 2 ^ 32) })
  else s

/-- A write to a privileged CSR; ro bits and exc stay (R163). -/
def Quince.writeCsr (n : Nat) (v : Word) (q : Quince) : Option Quince :=
  if n = 0x100 then some { q with ie := bitOf v 0, pie := bitOf v 1 }
  else if n = 0x101 then some { q with vbase := v &&& 0xFFFFFFFC#32 }
  else if n = 0x102 then some { q with epc := v }
  else if n = 0x105 then some { q with ipc1 := v }
  else if n = 0x106 then some { q with ipc2 := v }
  else none

/-- A write to CSR `n` by core `c`; none is ILLEGAL. -/
def State.writeCsr (s : State) (c n : Nat) (v : Word) : Option State :=
  if n = 0x008 then some (s.modCore c (fun x => { x with scratch0 := v }))
  else if n = 0x009 then some (s.modCore c (fun x => { x with scratch1 := v }))
  else if c = 128 then (s.quince.writeCsr n v).map (fun q => { s with quince := q })
  else none

def csrrBody (c : Nat) (w : Word) (s : State) : State :=
  let n := fld w 0 18
  match s.csr c n with
  | some v => ((s.csrLatch c n).setReg c (rdF w) v).retire c (s.pc4 c)
  | none => s.trap c .illegal (s.core c).pc w

def csrwBody (c : Nat) (w : Word) (s : State) : State :=
  match s.writeCsr c (fld w 0 18) (s.reg c (raF w)) with
  | some s1 => s1.retire c (s.pc4 c)
  | none => s.trap c .illegal (s.core c).pc w

/-! ### PINR and PINW (R162, R241, R242) -/

/-- A pin number of 576 or more traps with ACCESS, and the pin number is the exception address: a pin has no
other (R150, R162; DESIGN CHOICE, log entry 36). -/
def pinrBody (ball : Option Bool) (c : Nat) (w : Word) (s : State) : State :=
  let p := s.eaI c w
  if 576 ≤ p.toNat then s.trap c .access (s.core c).pc p
  else
    let q := s.samplePad p.toNat ball
    let x := s.pin p.toNat
    (q.2.setReg c (rdF w) (word (b2n q.1 + atBit x.outLatch 1 + atBit x.oeLatch 2))).retire c (s.pc4 c)

/-- As PINR for the pin number (R162; DESIGN CHOICE, log entry 36). -/
def pinwBody (c : Nat) (w : Word) (s : State) : State :=
  let p := s.eaS c w
  let v := s.reg c (rbS w)
  if 576 ≤ p.toNat then s.trap c .access (s.core c).pc p
  else (s.pinWrite p.toNat (bitOf v 0) (bitOf v 1)).retire c (s.pc4 c)

/-! ### The meanings -/

def execLdw (c : CoreId) (f : Option Word) (s : State) : Result :=
  .next (runInstr c f (isOp 0x08) (loadBody .word false) s)
def execLdh (c : CoreId) (f : Option Word) (s : State) : Result :=
  .next (runInstr c f (isOp 0x09) (loadBody .half true) s)
def execLdhu (c : CoreId) (f : Option Word) (s : State) : Result :=
  .next (runInstr c f (isOp 0x0A) (loadBody .half false) s)
def execLdb (c : CoreId) (f : Option Word) (s : State) : Result :=
  .next (runInstr c f (isOp 0x0B) (loadBody .byte true) s)
def execLdbu (c : CoreId) (f : Option Word) (s : State) : Result :=
  .next (runInstr c f (isOp 0x0C) (loadBody .byte false) s)
def execStw (c : CoreId) (f : Option Word) (s : State) : Result :=
  .next (runInstr c f (isOp 0x0D) (storeBody .word) s)
def execSth (c : CoreId) (f : Option Word) (s : State) : Result :=
  .next (runInstr c f (isOp 0x0E) (storeBody .half) s)
def execStb (c : CoreId) (f : Option Word) (s : State) : Result :=
  .next (runInstr c f (isOp 0x0F) (storeBody .byte) s)

/-- PACE_CNTL_READ, UART_DATA_READ and SPI_DATA_READ: a read's side effect, and its data for a load that waits
for it; UART and SPI are Quince's (R94, R328, R329). -/
def execPaceCntlRead (c : CoreId) (n : PacerId) (s : State) : Result := .next (s.performReg c (0x0803800C + 0x20 * n))
def execUartDataRead (n : Fin 2) (s : State) : Result := .next (s.performReg 128 (0x080B0000 + 0x100 * n))
def execSpiDataRead (n : Fin 2) (s : State) : Result := .next (s.performReg 128 (0x080B0200 + 0x100 * n))
def execLoadResponse (c : CoreId) (upset : Option Bool) (s : State) : Result := .next (s.loadResponse c upset)
def execStorePerform (c : CoreId) (s : State) : Result := .next (s.storePerform c)
def execStoreErrorResponse (c : CoreId) (s : State) : Result := .next (s.storeError c)
def execTrd (c : CoreId) (f : Option Word) (s : State) : Result := .next (runInstr c f (isOp 0x28) trdBody s)
def execTwr (c : CoreId) (f : Option Word) (s : State) : Result := .next (runInstr c f (isOp 0x29) twrBody s)
def execTrdw (c : CoreId) (f : Option Word) (s : State) : Result := .next (runInstr c f (isOp 0x2A) trdwBody s)
def execTapWordTake (word : CoreId × Bool) (s : State) : Result := .next (s.tapWordTake word.1 word.2)
def execTapRegisterFree (t : TileId) (tap : Fin 16 × Bool) (s : State) : Result :=
  .next (s.tapRegisterFree t tap.1 tap.2)
def execTrdwTimeout (c : CoreId) (s : State) : Result := .next (s.trdwTimeout c)
def execEvw (c : CoreId) (f : Option Word) (s : State) : Result := .next (runInstr c f (isOp 0x30) evwBody s)
def execEvset (c : CoreId) (f : Option Word) (s : State) : Result := .next (runInstr c f (isOp 0x31) evsetBody s)
def execEvwWake (c : CoreId) (s : State) : Result := .next (s.evwWake c)
def execSys (c : CoreId) (f : Option Word) (s : State) : Result :=
  .next (runInstr c f (isOp 0x32) (stopBody .sys) s)
def execFence (c : CoreId) (f : Option Word) (s : State) : Result := .next (runInstr c f (isOp 0x33) fenceBody s)
def execCsrr (c : CoreId) (f : Option Word) (s : State) : Result := .next (runInstr c f (isOp 0x38) csrrBody s)
def execCsrw (c : CoreId) (f : Option Word) (s : State) : Result := .next (runInstr c f (isOp 0x39) csrwBody s)
def execPinr (c : CoreId) (f : Option Word) (ball : Option Bool) (s : State) : Result :=
  .next (runInstr c f (isOp 0x3A) (pinrBody ball) s)
def execPinw (c : CoreId) (f : Option Word) (s : State) : Result := .next (runInstr c f (isOp 0x3B) pinwBody s)
def execIret (c : CoreId) (f : Option Word) (s : State) : Result := .next (runInstr c f (isOp 0x3C) iretBody s)
def execHalt (c : CoreId) (f : Option Word) (s : State) : Result :=
  .next (runInstr c f (isOp 0x3E) (stopBody .halt) s)
def execTrap (c : CoreId) (f : Option Word) (s : State) : Result :=
  .next (runInstr c f (isOp 0x3F) (stopBody .trap) s)

end Sys2Proof.Machine
end

