-- ==== Sys2Proof/Machine/Debug.lean ====
section
/-! DEFINITION. The TAP: boundary scan and the debug port of Quince (R249, R250, R258, R333). -/

namespace Sys2Proof.Machine

/-! ### Instructions of the TAP (R249, R250) -/

/-- A pin returns to its function through the switch of R239, from the value that scan holds on it; before
RELEASE_OUTPUTS, or while its region or tile is away, it returns to what holds it there. -/
def State.leavePin (s0 s : State) (p : Nat) : State :=
  let x := s0.pin p
  if !s0.pins.released || x.contained then s
  else s.modPin p (fun y => { y with
    drive := s0.padDrive p
    sw := if x.sw.cycle = 0 ∨ x.sw.cycle = 4 then { cycle := 1, cfg := x.cfg, next := x.sw.next, scan := true }
      else x.sw })

/-- The keeper of a ball holds the level that its pad drove last (R238, R250). -/
def State.keepPad (s0 s : State) (p : Nat) : State :=
  match s0.padDrive p, (s0.pin p).board with
  | some v, none => s.modPin p (fun x => { x with kept := v })
  | some v, some b => if v = b then s.modPin p (fun x => { x with kept := v }) else s
  | none, _ => s

/-- The levels that the pads drive before boundary scan changes them (R238, R250). -/
def State.keepPads (s : State) : State := (List.range 576).foldl s.keepPad s

/-- The instruction register takes `i`; leaving EXTEST, HIGHZ and CLAMP gives the pads back (R250). -/
def State.selectIr (i : TapInstr) (s : State) : State :=
  if s.cfg.boot = .off then s
  else
    let s1 := if s.jtag.ir.ownsPads || i.ownsPads then s.keepPads else s
    let s2 := if s1.jtag.ir.ownsPads && !i.ownsPads then (List.range 576).foldl s1.leavePin s1 else s1
    { s2 with jtag := { s2.jtag with ir := i } }

/-! ### The dedicated balls (R249, R250, R366, R405, log entry 67) -/

/-- What the device drives on dedicated ball `k` of cells 1728–1781: DONE; SERVICE_N, open drain; STATUS0–2;
CF_SCK low and both CS_N high between flash reads; CF_D0–7, PM_SCL and PM_SDA released (R237, R337, R366). -/
def State.dedDrive (s : State) (k : Nat) : Drive :=
  if k = 0 then some s.cfg.doneBall
  else if k = 1 then (if s.serviceLow then some false else none)
  else if k < 5 then some (s.cfg.status.testBit (k - 2))
  else if k = 5 then some false
  else if k < 8 then some true
  else none

/-- What dedicated ball `k` puts out: its function, or the boundary register. -/
def State.dedPad (s : State) (k : Nat) : Drive :=
  match s.jtag.ir with
  | .highz => none
  | .extest => if s.jtag.boundary.getLsbD (1730 + 3 * k) then some (s.jtag.boundary.getLsbD (1729 + 3 * k)) else none
  | .clamp => if s.jtag.boundary.getLsbD (1730 + 3 * k) then some (s.jtag.boundary.getLsbD (1729 + 3 * k)) else none
  | _ => s.dedDrive k

/-- The level of VC_EN, which scan never changes. -/
def State.vcEnBall (s : State) : Bool := s.pwr.vcEn

/-- Capture-DR loads the selected data register. -/
def State.captureDr (v : BitVec 1788) (s : State) : State := { s with jtag := { s.jtag with capture := v } }

/-- Update-DR loads the boundary register. -/
def State.updateBoundary (v : Option (BitVec 1788)) (s : State) : State :=
  match v with
  | some d =>
    let s1 := if s.jtag.ir.ownsPads then s.keepPads else s
    { s1 with jtag := { s1.jtag with boundary := d } }
  | none => s

/-- Output and enable cells of I/O cell `k` as its function drives them; with the driver off, the output cell
is as the board command gives it. -/
def cellsOf (d : Drive) (k : Nat) (v : BitVec 1788) : BitVec 1788 :=
  match d with
  | some l => (v &&& ~~~(BitVec.ofNat 1788 (6 * 8 ^ k))) ||| BitVec.ofNat 1788 ((4 + 2 * b2n l) * 8 ^ k)
  | none => v &&& ~~~(BitVec.ofNat 1788 (4 * 8 ^ k))

/-- What SAMPLE captures: the balls as `pads` gives them; for a user pin or a dedicated ball whose driver is
on, the level and the enable that its function gives it; and VC_EN (R250). -/
def State.sampleCells (s : State) (pads : BitVec 1788) : BitVec 1788 :=
  let v1 := (List.range 576).foldl (fun v p => cellsOf (s.funcDrive p) p v) pads
  let v2 := (List.range 18).foldl (fun v k => cellsOf (s.dedDrive k) (576 + k) v) v1
  (v2 &&& ~~~(BitVec.ofNat 1788 (2 ^ 1787))) ||| BitVec.ofNat 1788 (b2n s.vcEnBall * 2 ^ 1787)

/-- EXTEST: the balls are captured as SAMPLE captures them, and the boundary register drives the pads (R249,
R250, log entry 67). -/
def State.extest (pads : BitVec 1788) (dr : Option (BitVec 1788)) (s : State) : State :=
  if s.cfg.boot = .off then s
  else ((s.captureDr (s.sampleCells pads)).updateBoundary dr).selectIr .extest

def State.samplePreload (pads : BitVec 1788) (dr : Option (BitVec 1788)) (s : State) : State :=
  if s.cfg.boot = .off then s
  else ((s.captureDr (s.sampleCells pads)).selectIr .samplePreload).updateBoundary dr

/-- The bypass register captures 0. -/
def State.bypassWith (i : TapInstr) (s : State) : State :=
  if s.cfg.boot = .off then s else (s.selectIr i).captureDr 0

def State.idcode (s : State) : State :=
  if s.cfg.boot = .off then s else (s.selectIr .idcode).captureDr 0x1E51C0A3

/-- CFG_LOAD: a full load starts when the loader takes one over JTAG (R258). -/
def State.cfgLoad (s : State) : State :=
  let s1 := s.selectIr .cfgLoad
  if s1.jtagMayLoad then s1.startJtag else s1

/-- TAP_INSTRUCTION_EXIT: the TAP leaves EXTEST, HIGHZ or CLAMP, for BYPASS. -/
def State.tapExit (s : State) : State := if s.jtag.ir.ownsPads then s.bypassWith .bypass else s

/-! ### The debug port (R333) -/

/-- DEBUG acts as BYPASS: the production lock is fused, DEV_CTRL.dbg_dis is set, or the image that reached DONE
had prod_lock (R249, R265, R405). -/
def State.debugLocked (s : State) : Bool := Config.lockFuse || s.dev.dbgDis || s.cfg.sessionLock

/-- Quince is halted by the debug port and runs no step. -/
def State.debugHalted (s : State) : Bool := s.quince.dbgHalted && !(s.core 128).stepping

/-- What a Capture-DR of DEBUG loads: the data, and done, err, halted and busy. -/
def State.debugCapture (s : State) : BitVec 1788 :=
  let x := s.core 128
  BitVec.ofNat 1788 (s.quince.dbgData.toNat + atBit s.quince.dbgDone 64 + atBit s.quince.dbgErr 65 +
    atBit s.debugHalted 66 + atBit (x.haltPend || x.stepping) 67)

/-- DEBUG selects the 68-bit register, or acts as BYPASS. -/
def State.debug (s : State) : State :=
  if s.cfg.boot = .off then s
  else (s.selectIr .debug).captureDr (if s.debugLocked then 0 else s.debugCapture)

/-- The result of a debug command. -/
def State.debugResult (data : Word) (done err : Bool) (s : State) : State :=
  { s with quince := { s.quince with dbgData := data, dbgDone := done, dbgErr := err } }

/-- One scan of DEBUG: Capture-DR loads the result of the command before, and the new command runs at
Update-DR. -/
def State.debugScan (f : State → State) (s : State) : State :=
  if s.jtag.ir ≠ .debug ∨ s.debugLocked ∨ s.inReset then s else f (s.captureDr s.debugCapture)

/-- Quince stops at this boundary for the debug port. -/
def State.debugStop (s : State) : State :=
  { s with quince := { s.quince with dbgHalted := true, dbgDone := true } }.modCore 128
    (fun x => { x with haltPend := false, stepping := false })

/-- Quince waits in an instruction that R143 lets it leave, and nothing has answered. -/
def State.quinceWaits (s : State) : Bool :=
  match (s.core 128).wait with
  | none => false
  | some (.tapDone _ _ _ _ _ _) => false
  | some .queue => ((s.req 128).op == .pop || (s.req 128).op == .wait) && !s.answered 128
  | _ => true

/-- HALT: at the next instruction boundary; an interrupt entry that reaches it happens first, and a
waiting instruction follows R143. -/
def State.debugHalt (s : State) : State :=
  let s1 := s.debugResult 0 s.debugHalted false
  let x := s1.core 128
  if s.debugHalted then s1
  else match s1.ready with
    | some n => (s1.settleQuince.enterInterrupt n).debugStop
    | none =>
      if s1.quince.stopped then s1.debugStop
      else if s1.quinceWaits then (s1.abandonWait 128).debugStop
      else if x.wait.isSome ∨ x.load.isSome ∨ x.storeErr.isSome then
        s1.modCore 128 (fun x => { x with haltPend := true })
      else s1.debugStop

/-- RESUME. -/
def State.debugResume (s : State) : State :=
  let s1 := s.debugResult 0 true false
  if s.debugHalted then
    ({ s1 with quince := { s1.quince with dbgHalted := false, stopped := false } } : State).romHandler
  else s1

/-- STEP: one instruction, while halted. -/
def State.debugStep (s : State) : State :=
  if s.debugHalted then
    let s1 := s.debugResult 0 false false
    { s1 with quince := { s1.quince with stopped := false } }.modCore 128 (fun x => { x with stepping := true })
  else s.debugResult 0 true true

/-- A word read through Quince's address map and access rules. -/
def State.debugReadWord (addr : Word) (s : State) : State :=
  let a := addr &&& 0xFFFFFFFC#32
  match s.accessCheck 128 a .word .load, target 128 a with
  | none, .mem wa =>
    match (s.turnAt wa).memRead wa with
    | (.data d, s1) => s1.debugResult d true false
    | (.err _, s1) => s1.debugResult 0 true true
  | none, .desc off => s.debugResult (s.desc (off / 4)) true false
  | none, .tileReg t o => s.debugResult (word (s.readTile t o)) true false
  | none, .reg r => (s.readEffect 128 r).debugResult (s.regValue 128 r) true false
  | none, .rom n => s.debugResult (Config.bootRom n) true false
  | _, _ => s.debugResult 0 true true

/-- A word written through Quince's address map and access rules. -/
def State.debugWriteWord (addr data : Word) (s : State) : State :=
  let a := addr &&& 0xFFFFFFFC#32
  let s1 := s.debugResult 0 true false
  match s.accessCheck 128 a .word .store, target 128 a with
  | none, .mem wa => ((s1.turnAt wa).memWrite wa 15 data).2
  | none, .desc off => s1.storeDesc 128 off 15 data
  | none, .tileReg t o => s1.writeTile 128 t o data
  | none, .reg r => s1.writeReg r data
  | _, _ => s.debugResult 0 true true

/-- The value of debug register `r`: gn of bank b at 32b + n, pc at 0x60, CSRs 0x100–0x106. -/
def State.debugRegister (s : State) (r : Nat) : Option Word :=
  if r < 0x60 then (if r % 32 < 16 then some (s.regIn 128 (r / 32) (r % 32)) else none)
  else if r = 0x60 then some (s.core 128).pc
  else if 0x100 ≤ r ∧ r ≤ 0x106 then s.csr 128 r
  else none

def State.debugReadRegister (r : Word) (s : State) : State :=
  match (if s.debugHalted then s.debugRegister r.toNat else none) with
  | some v => s.debugResult v true false
  | none => s.debugResult 0 true true

/-- Debug register `r` written, if it is one that can be. -/
def State.debugPut (s : State) (r : Nat) (v : Word) : Option State :=
  if r < 0x60 then (if r % 32 < 16 then some (s.setRegIn 128 (r / 32) (r % 32) v) else none)
  else if r = 0x60 then some (s.modCore 128 (fun x => { x with pc := v &&& 0xFFFFFFFC#32 }))
  else if 0x100 ≤ r ∧ r ≤ 0x106 then s.writeCsr 128 r v
  else none

def State.debugWriteRegister (r v : Word) (s : State) : State :=
  match (if s.debugHalted then s.debugPut r.toNat v else none) with
  | some s1 => s1.debugResult 0 true false
  | none => s.debugResult 0 true true

/-! ### The meanings -/

def execExtest (pads : BitVec 1788) (dr : Option (BitVec 1788)) (s : State) : Result := .next (s.extest pads dr)
def execSamplePreload (pads : BitVec 1788) (dr : Option (BitVec 1788)) (s : State) : Result :=
  .next (s.samplePreload pads dr)
def execIdcode (s : State) : Result := .next s.idcode
def execHighz (s : State) : Result := .next (s.bypassWith .highz)
def execClamp (s : State) : Result := .next (s.bypassWith .clamp)
def execCfgLoad (s : State) : Result := .next s.cfgLoad
def execDebug (s : State) : Result := .next s.debug
def execBypass (_code : Byte) (s : State) : Result := .next (s.bypassWith .bypass)
def execTapInstructionExit (s : State) : Result := .next s.tapExit
def execTestLogicReset (s : State) : Result := .next s.idcode
def execDebugStatus (s : State) : Result := .next (s.debugScan id)
def execDebugHalt (s : State) : Result := .next (s.debugScan State.debugHalt)
def execDebugResume (s : State) : Result := .next (s.debugScan State.debugResume)
def execDebugStep (s : State) : Result := .next (s.debugScan State.debugStep)
def execDebugReadWord (addr : Word) (s : State) : Result := .next (s.debugScan (State.debugReadWord addr))
def execDebugWriteWord (addr data : Word) (s : State) : Result :=
  .next (s.debugScan (State.debugWriteWord addr data))
def execDebugReadRegister (r : Word) (s : State) : Result := .next (s.debugScan (State.debugReadRegister r))
def execDebugWriteRegister (r data : Word) (s : State) : Result :=
  .next (s.debugScan (State.debugWriteRegister r data))
def execDebugReservedCommand (_cmd : BitVec 4) (s : State) : Result :=
  .next (s.debugScan (State.debugResult 0 true true))

end Sys2Proof.Machine
end

