-- ==== Sys2Proof/Machine/Dispatch.lean ====
section
/-! DEFINITION. The dispatch: one arm per command. Each arm calls one meaning. -/

namespace Sys2Proof.Machine

/-- The effect of a command on everything but the queue. -/
def exec (i : Instr) (s : State) : Host.Outcome State Fault Refusal :=
  match i with
  | .powerOnReset straps => Sys2Proof.Machine.execPowerOnReset straps s
  | .resetN straps => Sys2Proof.Machine.execResetN straps s
  | .analogStartup verdicts codes skipped => Sys2Proof.Machine.execAnalogStartup verdicts codes skipped s
  | .bootTableRead main backup vmode accepted => Sys2Proof.Machine.execBootTableRead main backup vmode accepted s
  | .vcoreArrival mv => Sys2Proof.Machine.execVcoreArrival mv s
  | .vcoreArrivalTimeout => Sys2Proof.Machine.execVcoreArrivalTimeout s
  | .loadAttempt => Sys2Proof.Machine.execLoadAttempt s
  | .head bytes => Sys2Proof.Machine.execHead bytes s
  | .frame bytes => Sys2Proof.Machine.execFrame bytes s
  | .packed bytes => Sys2Proof.Machine.execPacked bytes s
  | .dict bytes => Sys2Proof.Machine.execDict bytes s
  | .stamp bytes => Sys2Proof.Machine.execStamp bytes s
  | .zero bytes => Sys2Proof.Machine.execZero bytes s
  | .regions bytes => Sys2Proof.Machine.execRegions bytes s
  | .seq bytes => Sys2Proof.Machine.execSeq bytes s
  | .sigref bytes => Sys2Proof.Machine.execSigref bytes s
  | .quince bytes => Sys2Proof.Machine.execQuince bytes s
  | .auth bytes => Sys2Proof.Machine.execAuth bytes s
  | .endRecord bytes => Sys2Proof.Machine.execEndRecord bytes s
  | .authVerdict => Sys2Proof.Machine.execAuthVerdict s
  | .recordRetry bytes => Sys2Proof.Machine.execRecordRetry bytes s
  | .loadWatchdogExpiry => Sys2Proof.Machine.execLoadWatchdogExpiry s
  | .jtagImageByte b => Sys2Proof.Machine.execJtagImageByte b s
  | .cfgLoadCapture => Sys2Proof.Machine.execCfgLoadCapture s
  | .extest pads dr => Sys2Proof.Machine.execExtest pads dr s
  | .samplePreload pads dr => Sys2Proof.Machine.execSamplePreload pads dr s
  | .idcode => Sys2Proof.Machine.execIdcode s
  | .highz => Sys2Proof.Machine.execHighz s
  | .clamp => Sys2Proof.Machine.execClamp s
  | .cfgLoad => Sys2Proof.Machine.execCfgLoad s
  | .debug => Sys2Proof.Machine.execDebug s
  | .bypass code => Sys2Proof.Machine.execBypass code s
  | .tapInstructionExit => Sys2Proof.Machine.execTapInstructionExit s
  | .debugStatus => Sys2Proof.Machine.execDebugStatus s
  | .debugHalt => Sys2Proof.Machine.execDebugHalt s
  | .debugResume => Sys2Proof.Machine.execDebugResume s
  | .debugStep => Sys2Proof.Machine.execDebugStep s
  | .debugReadWord addr => Sys2Proof.Machine.execDebugReadWord addr s
  | .debugWriteWord addr data => Sys2Proof.Machine.execDebugWriteWord addr data s
  | .debugReadRegister r => Sys2Proof.Machine.execDebugReadRegister r s
  | .debugWriteRegister r data => Sys2Proof.Machine.execDebugWriteRegister r data s
  | .debugReservedCommand cmd => Sys2Proof.Machine.execDebugReservedCommand cmd s
  | .seqStep => Sys2Proof.Machine.execSeqStep s
  | .seqStepComplete => Sys2Proof.Machine.execSeqStepComplete s
  | .waitLockTimeout => Sys2Proof.Machine.execWaitLockTimeout s
  | .delayExpiry => Sys2Proof.Machine.execDelayExpiry s
  | .waitPinMatch ball => Sys2Proof.Machine.execWaitPinMatch ball s
  | .waitPinTimeout => Sys2Proof.Machine.execWaitPinTimeout s
  | .rootLock => Sys2Proof.Machine.execRootLock s
  | .phaseLock q err => Sys2Proof.Machine.execPhaseLock q err s
  | .lockLoss xinFail => Sys2Proof.Machine.execLockLoss xinFail s
  | .relock => Sys2Proof.Machine.execRelock s
  | .pllEnWrite on => Sys2Proof.Machine.execPllEnWrite on s
  | .clkEcWrite n v => Sys2Proof.Machine.execClkEcWrite n v s
  | .clkPhaseWrite q v => Sys2Proof.Machine.execClkPhaseWrite q v s
  | .laneHandshake site => Sys2Proof.Machine.execLaneHandshake site s
  | .tokRateWindow => Sys2Proof.Machine.execTokRateWindow s
  | .paceTick run => Sys2Proof.Machine.execPaceTick run s
  | .debtRepay edge => Sys2Proof.Machine.execDebtRepay edge s
  | .takeVisible n => Sys2Proof.Machine.execTakeVisible n s
  | .paceCtrlWrite n v => Sys2Proof.Machine.execPaceCtrlWrite n v s
  | .joinChange n => Sys2Proof.Machine.execJoinChange n s
  | .paceIncWrite n v => Sys2Proof.Machine.execPaceIncWrite n v s
  | .accClr n => Sys2Proof.Machine.execAccClr n s
  | .paceCntClr n => Sys2Proof.Machine.execPaceCntClr n s
  | .debtClr n => Sys2Proof.Machine.execDebtClr n s
  | .leadMaxClr n => Sys2Proof.Machine.execLeadMaxClr n s
  | .paceCntlRead c n => Sys2Proof.Machine.execPaceCntlRead c n s
  | .portFRequest t => Sys2Proof.Machine.execPortFRequest t s
  | .bankWindow t sub own bus => Sys2Proof.Machine.execBankWindow t sub own bus s
  | .portFResponse t => Sys2Proof.Machine.execPortFResponse t s
  | .patrolPassStart t => Sys2Proof.Machine.execPatrolPassStart t s
  | .patrolRead t upset => Sys2Proof.Machine.execPatrolRead t upset s
  | .memoryClearComplete t => Sys2Proof.Machine.execMemoryClearComplete t s
  | .bankCntClr t => Sys2Proof.Machine.execBankCntClr t s
  | .eccCntClr t => Sys2Proof.Machine.execEccCntClr t s
  | .add c f => Sys2Proof.Machine.execAdd c f s
  | .sub c f => Sys2Proof.Machine.execSub c f s
  | .andR c f => Sys2Proof.Machine.execAnd c f s
  | .orR c f => Sys2Proof.Machine.execOr c f s
  | .xorR c f => Sys2Proof.Machine.execXor c f s
  | .shl c f => Sys2Proof.Machine.execShl c f s
  | .shr c f => Sys2Proof.Machine.execShr c f s
  | .sra c f => Sys2Proof.Machine.execSra c f s
  | .slt c f => Sys2Proof.Machine.execSlt c f s
  | .sltu c f => Sys2Proof.Machine.execSltu c f s
  | .mul c f => Sys2Proof.Machine.execMul c f s
  | .mulhu c f => Sys2Proof.Machine.execMulhu c f s
  | .mulhs c f => Sys2Proof.Machine.execMulhs c f s
  | .divu c f => Sys2Proof.Machine.execDivu c f s
  | .remu c f => Sys2Proof.Machine.execRemu c f s
  | .min c f => Sys2Proof.Machine.execMin c f s
  | .max c f => Sys2Proof.Machine.execMax c f s
  | .clz c f => Sys2Proof.Machine.execClz c f s
  | .popc c f => Sys2Proof.Machine.execPopc c f s
  | .bswap c f => Sys2Proof.Machine.execBswap c f s
  | .addi c f => Sys2Proof.Machine.execAddi c f s
  | .andi c f => Sys2Proof.Machine.execAndi c f s
  | .ori c f => Sys2Proof.Machine.execOri c f s
  | .xori c f => Sys2Proof.Machine.execXori c f s
  | .slti c f => Sys2Proof.Machine.execSlti c f s
  | .shiftiShl c f => Sys2Proof.Machine.execShiftiShl c f s
  | .shiftiShr c f => Sys2Proof.Machine.execShiftiShr c f s
  | .shiftiSra c f => Sys2Proof.Machine.execShiftiSra c f s
  | .lui c f => Sys2Proof.Machine.execLui c f s
  | .ldw c f => Sys2Proof.Machine.execLdw c f s
  | .ldh c f => Sys2Proof.Machine.execLdh c f s
  | .ldhu c f => Sys2Proof.Machine.execLdhu c f s
  | .ldb c f => Sys2Proof.Machine.execLdb c f s
  | .ldbu c f => Sys2Proof.Machine.execLdbu c f s
  | .stw c f => Sys2Proof.Machine.execStw c f s
  | .sth c f => Sys2Proof.Machine.execSth c f s
  | .stb c f => Sys2Proof.Machine.execStb c f s
  | .loadResponse c upset => Sys2Proof.Machine.execLoadResponse c upset s
  | .storePerform c => Sys2Proof.Machine.execStorePerform c s
  | .storeErrorResponse c => Sys2Proof.Machine.execStoreErrorResponse c s
  | .beq c f => Sys2Proof.Machine.execBeq c f s
  | .bne c f => Sys2Proof.Machine.execBne c f s
  | .blt c f => Sys2Proof.Machine.execBlt c f s
  | .bge c f => Sys2Proof.Machine.execBge c f s
  | .bltu c f => Sys2Proof.Machine.execBltu c f s
  | .bgeu c f => Sys2Proof.Machine.execBgeu c f s
  | .jal c f => Sys2Proof.Machine.execJal c f s
  | .jalr c f => Sys2Proof.Machine.execJalr c f s
  | .aadd c f => Sys2Proof.Machine.execAadd c f s
  | .aswp c f => Sys2Proof.Machine.execAswp c f s
  | .qpush c f => Sys2Proof.Machine.execQpush c f s
  | .qpop c f => Sys2Proof.Machine.execQpop c f s
  | .qtry c f => Sys2Proof.Machine.execQtry c f s
  | .qsteal c f => Sys2Proof.Machine.execQsteal c f s
  | .qtake c f => Sys2Proof.Machine.execQtake c f s
  | .qwait c f => Sys2Proof.Machine.execQwait c f s
  | .qstat c f => Sys2Proof.Machine.execQstat c f s
  | .queueResponse c => Sys2Proof.Machine.execQueueResponse c s
  | .trd c f => Sys2Proof.Machine.execTrd c f s
  | .twr c f => Sys2Proof.Machine.execTwr c f s
  | .trdw c f => Sys2Proof.Machine.execTrdw c f s
  | .tapWordTake word => Sys2Proof.Machine.execTapWordTake word s
  | .tapRegisterFree t tap => Sys2Proof.Machine.execTapRegisterFree t tap s
  | .trdwTimeout c => Sys2Proof.Machine.execTrdwTimeout c s
  | .evw c f => Sys2Proof.Machine.execEvw c f s
  | .evset c f => Sys2Proof.Machine.execEvset c f s
  | .tileEvtSet t b => Sys2Proof.Machine.execTileEvtSet t b s
  | .evwWake c => Sys2Proof.Machine.execEvwWake c s
  | .sys c f => Sys2Proof.Machine.execSys c f s
  | .fence c f => Sys2Proof.Machine.execFence c f s
  | .csrr c f => Sys2Proof.Machine.execCsrr c f s
  | .csrw c f => Sys2Proof.Machine.execCsrw c f s
  | .pinr c f ball => Sys2Proof.Machine.execPinr c f ball s
  | .pinw c f => Sys2Proof.Machine.execPinw c f s
  | .iret c f => Sys2Proof.Machine.execIret c f s
  | .halt c f => Sys2Proof.Machine.execHalt c f s
  | .trap c f => Sys2Proof.Machine.execTrap c f s
  | .start t => Sys2Proof.Machine.execStart t s
  | .resume t => Sys2Proof.Machine.execResume t s
  | .haltRequest t => Sys2Proof.Machine.execHaltRequest t s
  | .step t => Sys2Proof.Machine.execStep t s
  | .tileTimerWrite t v => Sys2Proof.Machine.execTileTimerWrite t v s
  | .tileTimerExpiry t => Sys2Proof.Machine.execTileTimerExpiry t s
  | .engWdog t => Sys2Proof.Machine.execEngWdog t s
  | .interruptEntry => Sys2Proof.Machine.execInterruptEntry s
  | .intcAck src => Sys2Proof.Machine.execIntcAck src s
  | .intcResample src => Sys2Proof.Machine.execIntcResample src s
  | .nodePush k => Sys2Proof.Machine.execNodePush k s
  | .nodePop k => Sys2Proof.Machine.execNodePop k s
  | .nodeSteal k => Sys2Proof.Machine.execNodeSteal k s
  | .nodeStat k => Sys2Proof.Machine.execNodeStat k s
  | .waiterTimeout k expiryWins => Sys2Proof.Machine.execWaiterTimeout k expiryWins s
  | .descriptorStore c addr width data => Sys2Proof.Machine.execDescriptorStore c addr width data s
  | .ringPacket k crcOk => Sys2Proof.Machine.execRingPacket k crcOk s
  | .packetRetry k crcOk => Sys2Proof.Machine.execPacketRetry k crcOk s
  | .eyeletPush t e => Sys2Proof.Machine.execEyeletPush t e s
  | .eyeletPop t e => Sys2Proof.Machine.execEyeletPop t e s
  | .eyeletTry t e => Sys2Proof.Machine.execEyeletTry t e s
  | .eyeletAnswer t e => Sys2Proof.Machine.execEyeletAnswer t e s
  | .adoptionComplete => Sys2Proof.Machine.execAdoptionComplete s
  | .laceRetryCntClr => Sys2Proof.Machine.execLaceRetryCntClr s
  | .laceNopsCntClr m => Sys2Proof.Machine.execLaceNopsCntClr m s
  | .laceMaxClr m => Sys2Proof.Machine.execLaceMaxClr m s
  | .laceTickWrite v => Sys2Proof.Machine.execLaceTickWrite v s
  | .seamWordAccept q => Sys2Proof.Machine.execSeamWordAccept q s
  | .seamOutLoad q qual late => Sys2Proof.Machine.execSeamOutLoad q qual late s
  | .seamInCapture q pads qual => Sys2Proof.Machine.execSeamInCapture q pads qual s
  | .seamRoomVisible q => Sys2Proof.Machine.execSeamRoomVisible q s
  | .eventSeamTransfer q => Sys2Proof.Machine.execEventSeamTransfer q s
  | .faultHoldEntry q => Sys2Proof.Machine.execFaultHoldEntry q s
  | .grpRst q => Sys2Proof.Machine.execGrpRst q s
  | .groupResetComplete q => Sys2Proof.Machine.execGroupResetComplete q s
  | .rstF q => Sys2Proof.Machine.execRstF q s
  | .rstE q => Sys2Proof.Machine.execRstE q s
  | .seamCntClr q => Sys2Proof.Machine.execSeamCntClr q s
  | .seamCfgWrite q v => Sys2Proof.Machine.execSeamCfgWrite q v s
  | .pinSeamTransfer p rise fall => Sys2Proof.Machine.execPinSeamTransfer p rise fall s
  | .pinCfgWrite p v => Sys2Proof.Machine.execPinCfgWrite p v s
  | .functionSwitch p => Sys2Proof.Machine.execFunctionSwitch p s
  | .pinIrqWrite p v => Sys2Proof.Machine.execPinIrqWrite p v s
  | .pinLatchWrite oe k v => Sys2Proof.Machine.execPinLatchWrite oe k v s
  | .pinDetection p level => Sys2Proof.Machine.execPinDetection p level s
  | .tileFence t => Sys2Proof.Machine.execTileFence t s
  | .engineFence t => Sys2Proof.Machine.execEngineFence t s
  | .efenceRelease t => Sys2Proof.Machine.execEfenceRelease t s
  | .faultReport => Sys2Proof.Machine.execFaultReport s
  | .stallTrip t entry => Sys2Proof.Machine.execStallTrip t entry s
  | .logheadClr => Sys2Proof.Machine.execLogheadClr s
  | .weltCntClr t => Sys2Proof.Machine.execWeltCntClr t s
  | .scrubPassStart => Sys2Proof.Machine.execScrubPassStart s
  | .scrubFrame errs => Sys2Proof.Machine.execScrubFrame errs s
  | .scrubCntClr => Sys2Proof.Machine.execScrubCntClr s
  | .reload => Sys2Proof.Machine.execReload s
  | .errClr => Sys2Proof.Machine.execErrClr s
  | .regionLoad => Sys2Proof.Machine.execRegionLoad s
  | .regionAbort => Sys2Proof.Machine.execRegionAbort s
  | .regionRelease => Sys2Proof.Machine.execRegionRelease s
  | .regionClear => Sys2Proof.Machine.execRegionClear s
  | .loadingCleared r => Sys2Proof.Machine.execLoadingCleared r s
  | .releaseComplete r => Sys2Proof.Machine.execReleaseComplete r s
  | .clearComplete r => Sys2Proof.Machine.execClearComplete r s
  | .tileGate t => Sys2Proof.Machine.execTileGate t s
  | .tilePower t => Sys2Proof.Machine.execTilePower t s
  | .tilePowerRestore => Sys2Proof.Machine.execTilePowerRestore s
  | .tilePowerComplete t => Sys2Proof.Machine.execTilePowerComplete t s
  | .governorWindow mv ps slow => Sys2Proof.Machine.execGovernorWindow mv ps slow s
  | .governorSample => Sys2Proof.Machine.execGovernorSample s
  | .voutCommand accepted => Sys2Proof.Machine.execVoutCommand accepted s
  | .pmAlert status cleared => Sys2Proof.Machine.execPmAlert status cleared s
  | .vcoreWarning mv => Sys2Proof.Machine.execVcoreWarning mv s
  | .vcoreReset reading => Sys2Proof.Machine.execVcoreReset reading s
  | .vauxWarning => Sys2Proof.Machine.execVauxWarning s
  | .vauxReset reading => Sys2Proof.Machine.execVauxReset reading s
  | .vccioWarning b => Sys2Proof.Machine.execVccioWarning b s
  | .tempReading s0 s1 s2 s3 s4 => Sys2Proof.Machine.execTempReading s0 s1 s2 s3 s4 s
  | .thermalRestart tj straps => Sys2Proof.Machine.execThermalRestart tj straps s
  | .pwrModeWrite v => Sys2Proof.Machine.execPwrModeWrite v s
  | .pwrLimitWrite reg v => Sys2Proof.Machine.execPwrLimitWrite reg v s
  | .pnowMaxClr => Sys2Proof.Machine.execPnowMaxClr s
  | .tempMaxClr => Sys2Proof.Machine.execTempMaxClr s
  | .uartDataWrite n v => Sys2Proof.Machine.execUartDataWrite n v s
  | .uartDataRead n => Sys2Proof.Machine.execUartDataRead n s
  | .uartReceive n b stopLow parityBad => Sys2Proof.Machine.execUartReceive n b stopLow parityBad s
  | .uartTransmitDone n => Sys2Proof.Machine.execUartTransmitDone n s
  | .spiDataWrite n v => Sys2Proof.Machine.execSpiDataWrite n v s
  | .spiDataRead n => Sys2Proof.Machine.execSpiDataRead n s
  | .spiByteDone n miso => Sys2Proof.Machine.execSpiByteDone n miso s
  | .i2cStart n => Sys2Proof.Machine.execI2cStart n s
  | .i2cStop n => Sys2Proof.Machine.execI2cStop n s
  | .i2cWrite n ack => Sys2Proof.Machine.execI2cWrite n ack s
  | .i2cRead n b => Sys2Proof.Machine.execI2cRead n b s
  | .i2cDone n arbLost => Sys2Proof.Machine.execI2cDone n arbLost s
  | .timerLoadWrite n v => Sys2Proof.Machine.execTimerLoadWrite n v s
  | .timerExpiry n => Sys2Proof.Machine.execTimerExpiry n s
  | .qwdogCtrlWrite v => Sys2Proof.Machine.execQwdogCtrlWrite v s
  | .qwdogKick v => Sys2Proof.Machine.execQwdogKick v s
  | .qwdogEarly => Sys2Proof.Machine.execQwdogEarly s
  | .qwdogExpiry straps => Sys2Proof.Machine.execQwdogExpiry straps s
  | .bistStart => Sys2Proof.Machine.execBistStart s
  | .bistStop => Sys2Proof.Machine.execBistStop s
  | .bistPassStart r => Sys2Proof.Machine.execBistPassStart r s
  | .bistWindow r verdict code skip conflict => Sys2Proof.Machine.execBistWindow r verdict code skip conflict s
  | .bistTestEnd r => Sys2Proof.Machine.execBistTestEnd r s
  | .pertKeyWrite v => Sys2Proof.Machine.execPertKeyWrite v s
  | .pertLaceArm => Sys2Proof.Machine.execPertLaceArm s
  | .pertEccArm => Sys2Proof.Machine.execPertEccArm s
  | .pertSupplyVcore => Sys2Proof.Machine.execPertSupplyVcore s
  | .pertSupplyVaux => Sys2Proof.Machine.execPertSupplyVaux s
  | .registerWrite c addr data => Sys2Proof.Machine.execRegisterWrite c addr data s
  | .pullselChange level => Sys2Proof.Machine.execPullselChange level s
  | .vccioWarningEnd b => Sys2Proof.Machine.execVccioWarningEnd b s
  | .vcoreWarningRearm mv => Sys2Proof.Machine.execVcoreWarningRearm mv s
  | .vaonFall => Sys2Proof.Machine.execVaonFall s
  | .bankUe1sExpiry t => Sys2Proof.Machine.execBankUe1sExpiry t s
  | .vcoreSettled mv => Sys2Proof.Machine.execVcoreSettled mv s
  | .pertBpHoldExpiry => Sys2Proof.Machine.execPertBpHoldExpiry s
  | .tilePowerRemoved t => Sys2Proof.Machine.execTilePowerRemoved t s
  | .testLogicReset => Sys2Proof.Machine.execTestLogicReset s

end Sys2Proof.Machine
end

