-- ==== Sys2Proof/Machine/Tick.lean ====
section
/-! DEFINITION. What happens in one cycle of the housekeeping clock when no command waits (log entry 1):
TIME_L counts (R149), the timers run (R157, R331), the Lace tick grid goes on (R192), a token window may end
(R49), the start-up sequence goes on (R287), QWDOG counts (R332), and every pin's detector samples its pad and every function
switch advances (R239, R243). -/

namespace Sys2Proof.Machine

/-! ### Timers (R157, R331) -/

/-- One HK cycle of the engine timer of tile `t`. -/
def State.tickTile (s : State) (t : Nat) : State :=
  let n := (s.tile t).timerCount
  if n = 0 then s
  else if n = 1 then s.tileTimerExpire t
  else s.modTile t (fun x => { x with timerCount := x.timerCount - 1 })

def State.tickTimer (s : State) (n : Nat) : State := s.modTimer n Timer.tick

/-! ### The Lace tick grid (R174, R192) -/

/-- HK cycles per tick; 0 acts as 1. -/
def Lace.cycles (l : Lace) : Nat := if l.tickDiv = 0 then 1 else l.tickDiv.toNat

/-- The callers whose timeout has run out at their home node. -/
def Lace.expired (l : Lace) : List Nat := (l.waiters.filter (fun w => w.ticks == some 0)).map (·.caller)

/-- One HK cycle of the tick counter; at a boundary every timeout counts it, and those that have run out
end. -/
def State.tickLace (s : State) : State :=
  if s.lace.tickCount + 1 < s.lace.cycles then
    { s with lace := { s.lace with tickCount := s.lace.tickCount + 1 } }
  else
    let s1 := s.tickBoundary
    let s2 := s1.lace.expired.foldl (fun s k => s.waiterTimeout k true) s1
    s2.tapQueue.foldl (fun s c => s.trdwTimeout c) s2

/-! ### The start-up sequence (R287) -/

/-- A DELAY counts down, WAIT_PIN compares the level after the synchroniser; the next step begins at the HK edge after the one before it completes. -/
def State.tickSeq (s : State) : State :=
  match s.cfg.seqPhase with
  | .ready => s.seqStep
  | .delay n => if n ≤ 1 then s.stepDone else s.phase1 (.delay (n - 1))
  | .waitPin _ _ _ => s.waitedLevel
  | _ => s

/-! ### Pins (R239, R243) -/

/-- The detector's sample: the level at the ball goes into the synchroniser, and a level that it has shown
for dg + 1 samples is accepted. While an accepted level matches a level trigger, pend is set (R244). -/
def State.tickDetector (s : State) (p : Nat) : State :=
  let q := s.samplePad p (s.pin (s.pairPin p)).board
  let x := s.pin p
  let s1 := q.2.modPin p (fun x => { x with sync1 := q.1, sync2 := x.sync1 })
  if x.sync2 = x.level then
    (s1.modPin p (fun x => { x with same := 0 })).levelPends p
  else if x.same < x.dg.toNat then s1.modPin p (fun x => { x with same := x.same + 1 })
  else s1.acceptLevel p x.sync2

/-- The switch, the detector, then the mask, which has covered this HK edge (R239, R243). -/
def State.tickPin (s : State) (p : Nat) : State :=
  ((s.switchEdge p).tickDetector p).modPin p (fun x => { x with mask := x.mask - 1 })

/-! ### The cycle -/

/-- What is clocked by HK goes on by one cycle. A token window that TOK_RATE_WINDOW has not ended at its
TIME ends now (R49, log entry 74). -/
def State.hkCycle (s : State) : State :=
  let s1 : State := { s.endTokWindow with time := s.time + 1 }
  let s2 := (List.range 128).foldl State.tickTile s1
  let s3 := (List.range 4).foldl State.tickTimer s2
  ((List.range 576).foldl State.tickPin s3.tickLace.tickSeq).tickQwdog

/-- One HK cycle; none while a supply or a thermal trip holds the device in reset (R334, R341), and no
clocked act while EC7, which is HK, stands still (R24, R199, R201). -/
def tick (s0 : State) : State :=
  if s0.inReset then s0
  else
    let s := s0.bootStep1
    if s.ecRuns 7 then s.hkCycle else s

end Sys2Proof.Machine
end

