-- ==== Sys2Proof/Safety.lean ====
section
/-! DEFINITION. The words in which the statements speak of a run: a block that never stops with a fault, and
what it is for a core to issue, to complete an instruction, and to trap. -/

namespace Sys2Proof.Says

open Sys2Proof Sys2Proof.Machine

/-- A step is safe when it neither faults nor is refused. -/
def stepSafe (s : State) : Prop := ∃ t, step s = .next t

/-! ### The frame in which every instruction of a core runs -/

/-- Core `c` can issue; its fetch gives the defined and legal word `w` and leaves the state `s1`. -/
def Issues (c : CoreId) (f : Option Word) (s : State) (w : Word) (s1 : State) : Prop :=
  s.canIssue c = true ∧ s.fetch c f = (.word w, s1) ∧ wordDefined w = true ∧ legal c w = true

/-- Core `x` once the instruction is over at TIME `now` and the next one is at `p`: INSTRET counts it, and a step
or a pending halt stops the core at that boundary (R149, R150, R154, R333). -/
def went (c : CoreId) (p : Word) (regs : SMap Word) (now : Nat) (x : Core) : Core :=
  let y := { x with pc := p, regs := regs, instret := (x.instret + 1) % 2 ^ 64 }
  if x.stepping || x.haltPend then
    let z := { y with stepping := false, haltPend := false }
    if c.val = 128 then z
    else { z with state := .halted, cause := .haltreq, epc := p, epcAt := some now, eaddr := 0, deferred := false }
  else y

/-- Quince after an instruction boundary: a step or a halt of the debug port ends there (R333). -/
def wentQuince (c : CoreId) (x : Core) (q : Quince) : Quince :=
  if c.val = 128 ∧ (x.stepping || x.haltPend) = true then { q with dbgHalted := true, dbgDone := true } else q

/-- From `s` to `t` core `c`, which was `x`, completes an instruction: it goes on at `p`, register `rd` of
the active bank holds `v` unless it is g0, and nothing else of the device changes. -/
def Done (c : CoreId) (x : Core) (p : Word) (rd : Nat) (v : Word) (s t : State) : Prop :=
  t = { s with cores := t.cores, quince := wentQuince c x s.quince } ∧
  (∀ k, k ≠ c.val → t.core k = s.core k) ∧
  t.core c = went c p (t.core c).regs s.time x ∧
  (∀ b m, m < 16 → t.regIn c b m = if m = rd ∧ m ≠ 0 ∧ b = s.bankOf c then v else s.regIn c b m)

/-- From `s` to `t` core `c` traps (R150, R151, R165): no register is written. A Cobbler stops, and the
fault manager hears of it, with injected set when PERT_ECC provoked the trap; Quince enters its handler, or stops
for good on a double trap, which leaves its exception registers and pc alone (that is the model's choice, log
entry 92). -/
def Trapped (c : CoreId) (k : Cause) (epc eaddr : Word) (s t : State) : Prop :=
  (∀ j, j ≠ c.val → t.core j = s.core j) ∧ (t.core c).regs = (s.core c).regs ∧
  (t.core c).stores = (s.core c).stores ∧ (t.core c).instret = (s.core c).instret ∧
  (if c.val = 128 then
    t = { s with cores := t.cores, quince := t.quince } ∧
    (s.quince.exc = true → t.quince.stopped = true ∧ (t.core 128).pc = (s.core 128).pc ∧
      t.quince.epc = s.quince.epc ∧ t.quince.cause = s.quince.cause ∧ t.quince.eaddr = s.quince.eaddr) ∧
    (s.quince.exc = false → t.quince.epc = epc ∧ t.quince.cause = k ∧ t.quince.eaddr = eaddr ∧
      t.quince.pie = s.quince.ie ∧ t.quince.ie = false ∧ t.quince.exc = true ∧
      t.quince.ctxs = .trap :: s.quince.ctxs ∧ (t.core 128).pc = s.quince.vbase)
  else
    t.core c = { s.core c with
      state := k.state, cause := k, epc := epc, epcAt := some s.time, eaddr := eaddr, deferred := false
      wait := none, haltPend := false, stepping := false } ∧
    t = { s with cores := t.cores, flt := { s.flt with inbox := s.flt.inbox ++
      (if k = .sys ∨ k = .halt then [] else [{ Report.of 0x05 with
        time := word s.time, tile := c, cause := k.code, detail := epc, injected := s.provoked c k eaddr }]) } })

end Sys2Proof.Says
end

