-- ==== Sys2Proof/Certificates/Slice0/Obligations.lean ====
section
/-! DEFINITION. The statements for the provers. The definitions of `Sys2Proof.Says` are the words in which
they speak; the statements follow. -/

namespace Sys2Proof.Says

open Sys2Proof Sys2Proof.Machine

/-! ### The rows of chapter 06 -/

/-- A row of format A with its result. -/
abbrev AluRow := (CoreId → Option Word → Instr) × (Word → Word → Word)

/-- The ALU rows of fn 0 to 9 (R130). -/
def aluRowsA : List AluRow :=
  [(Instr.add, fun a b => a + b), (Instr.sub, fun a b => a - b), (Instr.andR, fun a b => a &&& b),
   (Instr.orR, fun a b => a ||| b), (Instr.xorR, fun a b => a ^^^ b),
   (Instr.shl, fun a b => a <<< (b.toNat % 32)), (Instr.shr, fun a b => a >>> (b.toNat % 32)),
   (Instr.sra, fun a b => a.sshiftRight (b.toNat % 32)),
   (Instr.slt, fun a b => if a.slt b then 1 else 0), (Instr.sltu, fun a b => if a.ult b then 1 else 0)]

/-- The ALU rows of fn 10 to 19 (R130). -/
def aluRowsB : List AluRow :=
  [(Instr.mul, fun a b => a * b),
   (Instr.mulhu, fun a b => BitVec.extractLsb' 32 32 (a.setWidth 64 * b.setWidth 64)),
   (Instr.mulhs, fun a b => BitVec.extractLsb' 32 32 (a.signExtend 64 * b.signExtend 64)),
   (Instr.divu, fun a b => if b = 0 then 0xFFFFFFFF#32 else a / b),
   (Instr.remu, fun a b => if b = 0 then a else a % b),
   (Instr.min, fun a b => if b.slt a then b else a), (Instr.max, fun a b => if a.slt b then b else a),
   (Instr.clz, fun a _ => if a = 0 then 32 else BitVec.ofNat 32 (31 - a.toNat.log2)),
   (Instr.popc, fun a _ => BitVec.ofNat 32 ((List.range 32).filter (fun i => a.getLsbD i)).length),
   (Instr.bswap, fun a _ =>
     a.extractLsb' 0 8 ++ a.extractLsb' 8 8 ++ a.extractLsb' 16 8 ++ a.extractLsb' 24 8)]

/-- The ALU rows by fn (R130). -/
def aluRows : List AluRow := aluRowsA ++ aluRowsB

/-- The rows of formats I and S that compare, add or shift with an immediate (R129, R131), by opcode, and
for opcode 0x06 by kind. -/
def immRow (w : Word) : Option ((CoreId → Option Word → Instr) × (Word → Word)) :=
  let i : BitVec 18 := w.setWidth 18
  let d := (w.setWidth 5).toNat
  match opc w, (w.extractLsb' 5 2).toNat with
  | 0x01, _ => some (Instr.addi, fun a => a + i.signExtend 32)
  | 0x02, _ => some (Instr.andi, fun a => a &&& i.setWidth 32)
  | 0x03, _ => some (Instr.ori, fun a => a ||| i.setWidth 32)
  | 0x04, _ => some (Instr.xori, fun a => a ^^^ i.setWidth 32)
  | 0x05, _ => some (Instr.slti, fun a => if a.slt (i.signExtend 32) then 1 else 0)
  | 0x06, 0 => some (Instr.shiftiShl, fun a => a <<< d)
  | 0x06, 1 => some (Instr.shiftiShr, fun a => a >>> d)
  | 0x06, 2 => some (Instr.shiftiSra, fun a => a.sshiftRight d)
  | 0x07, _ => some (Instr.lui, fun _ => i.setWidth 32 <<< 14)
  | _, _ => none

/-- The conditional branches by opcode (R129). -/
def branchRow (w : Word) : Option ((CoreId → Option Word → Instr) × (Word → Word → Bool)) :=
  match opc w with
  | 0x10 => some (Instr.beq, fun a b => a == b)
  | 0x11 => some (Instr.bne, fun a b => a != b)
  | 0x12 => some (Instr.blt, fun a b => a.slt b)
  | 0x13 => some (Instr.bge, fun a b => b.sle a)
  | 0x14 => some (Instr.bltu, fun a b => a.ult b)
  | 0x15 => some (Instr.bgeu, fun a b => b.ule a)
  | _ => none

/-- The rows that this chapter names otherwise by opcode alone (R129). -/
def opRow (w : Word) : Option (CoreId → Option Word → Instr) :=
  match opc w with
  | 0x08 => some Instr.ldw | 0x09 => some Instr.ldh | 0x0A => some Instr.ldhu | 0x0B => some Instr.ldb | 0x0C => some Instr.ldbu
  | 0x0D => some Instr.stw | 0x0E => some Instr.sth | 0x0F => some Instr.stb
  | 0x16 => some Instr.jal | 0x17 => some Instr.jalr | 0x18 => some Instr.aadd | 0x19 => some Instr.aswp
  | 0x20 => some Instr.qpush | 0x21 => some Instr.qpop | 0x22 => some Instr.qtry | 0x23 => some Instr.qsteal
  | 0x24 => some Instr.qtake | 0x25 => some Instr.qwait | 0x26 => some Instr.qstat
  | 0x28 => some Instr.trd | 0x29 => some Instr.twr | 0x2A => some Instr.trdw
  | 0x30 => some Instr.evw | 0x31 => some Instr.evset | 0x32 => some Instr.sys | 0x33 => some Instr.fence
  | 0x38 => some Instr.csrr | 0x39 => some Instr.csrw | 0x3A => some (fun c f => Instr.pinr c f none)
  | 0x3B => some Instr.pinw | 0x3C => some Instr.iret | 0x3E => some Instr.halt | 0x3F => some Instr.trap
  | _ => none

/-- The row that an instruction word belongs to (R129–R131). -/
def rowOf (w : Word) : Option (CoreId → Option Word → Instr) :=
  if opc w = 0 then (aluRows[fnF w]?).map (·.1)
  else match immRow w with
    | some p => some p.1
    | none => match branchRow w with
      | some p => some p.1
      | none => opRow w

/-! ### Memory as a core sees it -/

/-- The width and the extension of the load of an opcode: bytes, signed (R129). -/
def loadForm : Nat → Option (MemWidth × Bool)
  | 0x08 => some (.word, false)
  | 0x09 => some (.half, true)
  | 0x0A => some (.half, false)
  | 0x0B => some (.byte, true)
  | 0x0C => some (.byte, false)
  | _ => none

/-- The width of the store of an opcode (R129). -/
def storeForm : Nat → Option MemWidth
  | 0x0D => some .word
  | 0x0E => some .half
  | 0x0F => some .byte
  | _ => none

/-- Bytes, the first at the lowest address, extended to 32 bits (R21, R129). -/
def extended (w : MemWidth) (signed : Bool) (b : Nat → Byte) : Word :=
  match w, signed with
  | .word, _ => b 3 ++ b 2 ++ b 1 ++ b 0
  | .half, true => (b 1 ++ b 0 : BitVec 16).signExtend 32
  | .half, false => (b 1 ++ b 0 : BitVec 16).setWidth 32
  | .byte, true => (b 0).signExtend 32
  | .byte, false => (b 0).setWidth 32

/-- The byte address of the first byte that an access at `a` to word `wa` names. -/
def firstByte (wa : Nat) (a : Word) : Nat := 4 * wa + a.toNat % 4

/-- As `Done`, with several registers: `upd m` is what register `m` of the active bank now holds. -/
def DoneWith (c : CoreId) (x : Core) (p : Word) (upd : Nat → Option Word) (s t : State) : Prop :=
  t = { s with cores := t.cores, quince := wentQuince c x s.quince } ∧
  (∀ k, k ≠ c.val → t.core k = s.core k) ∧
  t.core c = went c p (t.core c).regs s.time x ∧
  (∀ b m, m < 16 → t.regIn c b m =
    if m ≠ 0 ∧ b = s.bankOf c then (upd m).getD (s.regIn c b m) else s.regIn c b m)

/-- A core that waited and goes on: it waits no more, and a Cobbler reads RUNNING again (R155). -/
def woken (c : CoreId) (x : Core) : Core :=
  { x with wait := none, state := if c.val = 128 then x.state else .running }

/-- A core that waits for nothing else, with the wait in which it stands. -/
def Waits (s : State) (c : CoreId) (w : Wait) : Prop :=
  (s.core c).wait = some w ∧ (s.core c).storeErr = none

/-- An inward lane offers `v` to the fabric (R10). -/
def Offers (s : State) (t p l : Nat) (v : Bool) : Prop :=
  s.node (inNode t p l) = { out := .tok v, ack := false, full := true }

/-- The links of the shortest path between two nodes of the ring 0–1–3–2 (R185). -/
def path : Nat → Nat → List Nat
  | 0, 1 => [0] | 0, 2 => [3] | 0, 3 => [0, 1]
  | 1, 0 => [0] | 1, 3 => [1] | 1, 2 => [0, 3]
  | 2, 0 => [3] | 2, 3 => [2] | 2, 1 => [3, 0]
  | 3, 1 => [1] | 3, 2 => [2] | 3, 0 => [1, 0]
  | _, _ => []

/-- What a queue instruction of an opcode asks (R129, R141). -/
def queueOp : Nat → Option LaceOp
  | 0x20 => some .push
  | 0x21 => some .pop
  | 0x22 => some .try
  | 0x23 => some .steal
  | 0x24 => some .take
  | 0x25 => some .wait
  | 0x26 => some .stat
  | _ => none

/-- The request of caller `k` has been answered. -/
def Answered (s : State) (k : Nat) (code : Nat) (v : DWord) : Prop := (s.req k).phase = .answer code v 0

/-- Only Lace's requests change, and of them only that of caller `k`. -/
def OnlyReq (k : Nat) (s t : State) : Prop :=
  t = { s with lace := { s.lace with reqs := t.lace.reqs } } ∧ ∀ j, j ≠ k → t.req j = s.req j

/-! ### Instructions behind an outstanding load (R135) -/

/-- Load `l` of core `c` is outstanding, and the word `w` that follows it reads registers `src`, the load's
destination not among them; no step and no halt is on its way. -/
def Behind (c : CoreId) (f : Option Word) (s : State) (w : Word) (s1 : State) (l : Load) (src : List Nat) : Prop :=
  (s.core c).load = some l ∧ s.runs c = true ∧ s.fetch c f = (.word w, s1) ∧ wordDefined w = true ∧
  legal c w = true ∧ (s.core c).stepping = false ∧ (s.core c).haltPend = false ∧ (l.rd = 0 ∨ l.rd ∉ src)

/-- Core `c` completes an instruction behind load `l`, as in `Done`; a load of the same register has its data
dropped when it comes. -/
def DoneBehind (c : CoreId) (l : Load) (p : Word) (rd : Nat) (v : Word) (s t : State) : Prop :=
  t = { s with cores := t.cores } ∧
  (∀ k, k ≠ c.val → t.core k = s.core k) ∧
  t.core c = { s.core c with
    pc := p, regs := (t.core c).regs, instret := ((s.core c).instret + 1) % 2 ^ 64
    load := some (if l.rd = rd then { l with rd := 0 } else l) } ∧
  (∀ b m, m < 16 → t.regIn c b m = if m = rd ∧ m ≠ 0 ∧ b = s.bankOf c then v else s.regIn c b m)

/-! ### The fields that must be zero (R128, R130, R131, R140, R145, R148, R149) -/

/-- The fields (lowest bit, width) that the instruction of a word lists as unused on core `c`. -/
def unusedFields (c : CoreId) (w : Word) : List (Nat × Nat) :=
  match opc w with
  | 0x00 => if 17 ≤ fnF w ∧ fnF w ≤ 19 then [(14, 4)] else []
  | 0x06 => [(7, 11)]
  | 0x07 => [(18, 4)]
  | 0x18 | 0x19 => [(0, 14)]
  | 0x20 => [(22, 4), (5, 9)]
  | 0x21 | 0x22 | 0x23 | 0x24 | 0x26 => [(14, 4), (5, 9)]
  | 0x25 => [(5, 9)]
  | 0x2A => [(4, 10)]
  | 0x30 => [(14, 4), (1, 13)] ++ (if c.val = 128 then [(18, 4)] else [])
  | 0x31 => [(22, 4), (0, 14)]
  | 0x33 | 0x3C => [(0, 26)]
  | 0x38 => [(18, 4)]
  | 0x39 => [(22, 4)]
  | _ => []

/-- A register number that a 64-bit entry may name: even, from g2 to g12 (R140). -/
def EntryPair (n : Nat) : Prop := n % 2 = 0 ∧ 2 ≤ n ∧ n ≤ 12

/-- What R140 asks of a queue instruction with w = 1. -/
def WideForm (w : Word) : Prop :=
  w.getLsbD 4 = true →
    (opc w = 0x20 → EntryPair (rbF w)) ∧
    (opc w ∈ [0x21, 0x22, 0x23, 0x24, 0x25] →
      EntryPair (rdF w) ∧ fld w 0 4 ≠ rdF w ∧ fld w 0 4 ≠ rdF w + 1)

/-! ### Port P with nothing else waiting (R101) -/

/-- Nothing waits at ports P and F of the bank that holds word `wa`. -/
def PortIdle (s : State) (wa : Nat) : Prop :=
  wa < 0x400000 → (s.tile (wa / 0x8000)).portP = [] ∧ (s.tile (wa / 0x8000)).fReqs = []

/-- From `s` to `t` core `c` has one access to word `wa` through port P of its bank, if a bank holds it: the
sub-bank rests next, port P remembers whose turn it was, and the access is counted (R99, R101, R345); the
tile is otherwise changed by `f` alone, and so is no other tile. -/
def Served (c : CoreId) (wa : Nat) (f : Nat → Tile → Tile) (s t : State) : Prop :=
  (∀ k, t.tile k = f k (if wa < 0x400000 ∧ k = wa / 0x8000 then
    { s.tile k with
      portP := [], portOwn := decide (c.val = k)
      portRest := (s.tile k).portRest ||| BitVec.ofNat 8 (2 ^ (wa % 8)) } else s.tile k)) ∧
  t.pwr = if wa < 0x400000 then { s.pwr with accesses := s.pwr.accesses + 1 } else s.pwr

/-- A corrected error of word `wa` counted in its tile (R114, R121). -/
def counted (wa k : Nat) (x : Tile) : Tile :=
  if wa < 0x400000 ∧ k = wa / 0x8000 then { x with bankCe := sat 0xFF (x.bankCe + 1) }
  else if 0x400000 ≤ wa ∧ wa < 0x480000 ∧ k = (wa - 0x400000) / 0x1000 then
    { x with localCe := sat 0xFF (x.localCe + 1) }
  else x

/-- No result is held for a read, or a write, of the tap whose DATA is at `a` (R167). -/
def NoHeldTap (s : State) (c : CoreId) (write : Bool) (a : Word) : Prop :=
  c.val = 128 → ∀ t j d, s.heldNow = some (.tap write t j d) → target c a ≠ .tap t j 0

/-! ### Queues and the ring (R170, R185, R186) -/

/-- The two links of a node. -/
def nodeLinks : Nat → List Nat
  | 0 => [0, 3] | 1 => [0, 1] | 2 => [2, 3] | _ => [1, 2]

/-- The other way round the ring. -/
def longWay : Nat → Nat → List Nat
  | 0, 1 => [3, 2, 1] | 0, 2 => [0, 1, 2] | 0, 3 => [3, 2]
  | 1, 0 => [1, 2, 3] | 1, 3 => [0, 3, 2] | 1, 2 => [1, 2]
  | 2, 0 => [2, 1, 0] | 2, 3 => [3, 0, 1] | 2, 1 => [2, 1]
  | 3, 1 => [2, 3, 0] | 3, 2 => [1, 0, 3] | 3, 0 => [2, 3]
  | _, _ => []

/-- The entry in slot `i` of a queue: one word, or two of which the lower is at the lower address (R170). -/
def entryAt (s : State) (q i : Nat) : DWord :=
  let wa := s.slotAddr q i / 4
  if s.qWide q then s.wordAt (wa + 1) ++ s.wordAt wa else (s.wordAt wa).setWidth 64

/-- The words of slot `i` have clean codes, and nothing waits at the ports of their bank (R104, R113). -/
def SlotClean (s : State) (q i : Nat) : Prop :=
  let wa := s.slotAddr q i / 4
  s.eccAt wa = none ∧ PortIdle s wa ∧ (s.qWide q = true → s.eccAt (wa + 1) = none)

/-! ### The fabric (R11, R59, R66) -/

/-- The acknowledge of element `key`, which holds nothing, is the join of its consumers' (R11, R59). -/
def AckJoined (s t : State) (key : Nat) (rd : List Nat) : Prop :=
  rd ≠ [] →
    ((∀ k ∈ rd, (s.node k).ack = true) → (t.node key).ack = true) ∧
    ((∀ k ∈ rd, (s.node k).ack = false) → (t.node key).ack = false) ∧
    ((∃ k ∈ rd, (s.node k).ack = true) → (∃ k ∈ rd, (s.node k).ack = false) → (t.node key).ack = (s.node key).ack)

/-- The rail that tap `p` puts on spine `sp` (R62, R64). -/
def tapRail (s : State) (t sp p : Nat) : Rail :=
  (s.node (cellNode t (spineCluster sp p) (spineSrc sp (s.spineTap t sp p)))).out

/-- Only the fabric changes, and of it only element `key`. -/
def OnlyNode (key : Nat) (s t : State) : Prop :=
  t = { s with wires := t.wires } ∧ ∀ j, j ≠ key → t.node j = s.node j

/-- An empty element with its handshake done. -/
def emptyNode : Node := { out := .spacer, ack := false, full := false }

/-- An element that has captured `v`. -/
def heldTok (v : Bool) : Node := { out := .tok v, ack := true, full := true }

/-! ### Pins (R238) -/

/-- The last level of pin `x`'s ball when its driver changes: what it put out, unless the board drove against
it. -/
def leftLevel (x : Pin) : Bool :=
  match x.drive, x.board with
  | some v, none => v
  | some v, some b => if v = b then v else x.kept
  | none, _ => x.kept

/-- The last level of pin `p`'s ball when boundary scan changes what its pad drives. -/
def scanKept (s : State) (p : Nat) : Bool :=
  match s.padDrive p, (s.pin p).board with
  | some v, none => v
  | some v, some b => if v = b then v else (s.pin p).kept
  | none, _ => (s.pin p).kept

/-! ### Eyelet ports (R173, R183) -/

/-- No answer is on its way to an eyelet port of region `r`. -/
def PortsQuiet (s : State) (r : Nat) : Prop :=
  ∀ k e c v n, k < 128 → s.regionOf k = r → e < 16 → (s.req (256 + 16 * k + e)).phase ≠ .answer c v n


end Sys2Proof.Says

open Sys2Proof Sys2Proof.Machine Sys2Proof.Says

/-- A step with a command at the front of the queue is exec of that command with the queue's rest. -/
def Obligations.StepRunsFront : Prop :=
  ∀ (s : State) (c : Instr) (r : List Instr), s.pending = c :: r → step s = exec c { s with pending := r }

/-- ALU instructions (R130): rd takes the result of fn, nothing else changes but the pc and INSTRET; an
undefined fn traps with ILLEGAL. Behind an outstanding load (R135) the same holds of an instruction that does
not read the load's destination, and one that reads it waits. -/
def Obligations.AluResults : Prop :=
  ∀ (c : CoreId) (f : Option Word) (s s1 : State) (w : Word), opc w = 0 →
    (Issues c f s w s1 → ∀ p, aluRows[fnF w]? = some p →
      ∃ t, exec (p.1 c f) s = .next t ∧
        Done c (s.core c) ((s.core c).pc + 4) (rdF w) (p.2 (s.reg c (raF w)) (s.reg c (rbF w))) s1 t) ∧
    (s.canIssue c = true → s.fetch c f = (.word w, s1) → 20 ≤ fnF w →
      ∀ p ∈ aluRows, ∃ t, exec (p.1 c f) s = .next t ∧ Trapped c .illegal (s.core c).pc w s1 t) ∧
    (∀ l, Behind c f s w s1 l [raF w, rbF w] → ∀ p, aluRows[fnF w]? = some p →
      ∃ t, exec (p.1 c f) s = .next t ∧
        DoneBehind c l ((s.core c).pc + 4) (rdF w) (p.2 (s.reg c (raF w)) (s.reg c (rbF w))) s1 t) ∧
    (∀ l, (s.core c).load = some l → s.fetch c f = (.word w, s1) → l.rd ≠ 0 → l.rd = raF w ∨ l.rd = rbF w →
      ∀ p ∈ aluRows, exec (p.1 c f) s = .next s)

/-- Immediate instructions, SHIFTI and LUI (R129, R131): rd takes the result and nothing else changes but the
pc and INSTRET, also behind an outstanding load of a register that they do not read (R135); SHIFTI of kind 3
traps with ILLEGAL. -/
def Obligations.ImmediateResults : Prop :=
  ∀ (c : CoreId) (f : Option Word) (s s1 : State) (w : Word),
    (Issues c f s w s1 → ∀ p, immRow w = some p →
      ∃ t, exec (p.1 c f) s = .next t ∧
        Done c (s.core c) ((s.core c).pc + 4) (rdF w) (p.2 (s.reg c (raF w))) s1 t) ∧
    (s.canIssue c = true → s.fetch c f = (.word w, s1) → opc w = 0x06 → w.extractLsb' 5 2 = 3 →
      ∀ mk ∈ [Instr.shiftiShl, Instr.shiftiShr, Instr.shiftiSra],
        ∃ t, exec (mk c f) s = .next t ∧ Trapped c .illegal (s.core c).pc w s1 t) ∧
    (∀ l, Behind c f s w s1 l (if opc w = 0x07 then [] else [raF w]) → ∀ p, immRow w = some p →
      ∃ t, exec (p.1 c f) s = .next t ∧
        DoneBehind c l ((s.core c).pc + 4) (rdF w) (p.2 (s.reg c (raF w))) s1 t)

/-- Branches and jumps (R129, R138): where they go, what they write, and JALR's trap on a misaligned target, with
ACCESS where the address map has no such address and ALIGN elsewhere (R406). Behind an outstanding load the
same holds, but for a JALR that would trap (R135). -/
def Obligations.BranchesAndJumps : Prop :=
  (∀ (c : CoreId) (f : Option Word) (s s1 : State) (w : Word), Issues c f s w s1 →
    let pc := (s.core c).pc
    let tgt := s.reg c (raF w) + (w.setWidth 18 : BitVec 18).signExtend 32
    (∀ p, branchRow w = some p → ∃ t, exec (p.1 c f) s = .next t ∧
      Done c (s.core c) (if p.2 (s.reg c (raS w)) (s.reg c (rbS w))
        then pc + 4 * (w.setWidth 18 : BitVec 18).signExtend 32 else pc + 4) 0 0 s1 t) ∧
    (opc w = 0x16 → ∃ t, exec (.jal c f) s = .next t ∧
      Done c (s.core c) (pc + 4 * (w.setWidth 26 : BitVec 26).signExtend 32) 15 (pc + 4) s1 t) ∧
    (opc w = 0x17 → tgt.toNat % 4 = 0 → ∃ t, exec (.jalr c f) s = .next t ∧
      Done c (s.core c) tgt (rdF w) (pc + 4) s1 t) ∧
    (opc w = 0x17 → tgt.toNat % 4 ≠ 0 → ∃ t, exec (.jalr c f) s = .next t ∧
      Trapped c (if target c tgt = .none then .access else .align) pc tgt s1 t)) ∧
  (∀ (c : CoreId) (f : Option Word) (s s1 : State) (w : Word) (l : Load),
    let pc := (s.core c).pc
    let tgt := s.reg c (raF w) + (w.setWidth 18 : BitVec 18).signExtend 32
    (∀ p, branchRow w = some p → Behind c f s w s1 l [raS w, rbS w] → ∃ t, exec (p.1 c f) s = .next t ∧
      DoneBehind c l (if p.2 (s.reg c (raS w)) (s.reg c (rbS w))
        then pc + 4 * (w.setWidth 18 : BitVec 18).signExtend 32 else pc + 4) 0 0 s1 t) ∧
    (opc w = 0x16 → Behind c f s w s1 l [] → ∃ t, exec (.jal c f) s = .next t ∧
      DoneBehind c l (pc + 4 * (w.setWidth 26 : BitVec 26).signExtend 32) 15 (pc + 4) s1 t) ∧
    (opc w = 0x17 → tgt.toNat % 4 = 0 → Behind c f s w s1 l [raF w] → ∃ t, exec (.jalr c f) s = .next t ∧
      DoneBehind c l tgt (rdF w) (pc + 4) s1 t))

/-- R128: a word that is not defined, or that breaks its row's form, traps with ILLEGAL before it has any
effect. The command is any core instruction's for an undefined word, the word's own for the rest. A defined
word breaks its form when a field that its row lists as unused is not zero, when its register pair is not one
that R140 allows, or when it is a Quince-only instruction on a Cobbler. -/
def Obligations.IllegalBeforeEffect : Prop :=
  ∀ (c : CoreId) (f : Option Word) (s s1 : State) (w : Word),
    s.canIssue c = true → s.fetch c f = (.word w, s1) →
    (wordDefined w = false → ∀ (v : Word) mk, rowOf v = some mk →
      ∃ t, exec (mk c f) s = .next t ∧ Trapped c .illegal (s.core c).pc w s1 t) ∧
    (wordDefined w = true → legal c w = false →
      ∃ mk t, rowOf w = some mk ∧ exec (mk c f) s = .next t ∧ Trapped c .illegal (s.core c).pc w s1 t) ∧
    (wordDefined w = true ↔ (rowOf w).isSome = true) ∧
    (legal c w = true ↔ (∀ p ∈ unusedFields c w, fld w p.1 p.2 = 0) ∧ WideForm w ∧
      (opc w ∈ [0x3A, 0x3B, 0x3C] → c.val = 128))

/-- A fetch that finds no word traps at the address that could not be fetched (R134). -/
def Obligations.FetchTraps : Prop :=
  ∀ (c : CoreId) (f : Option Word) (s s1 : State) (k : Cause) (v : Word) (mk : CoreId → Option Word → Instr),
    s.canIssue c = true → rowOf v = some mk →
    (s.fetch c f = (.trap k, s1) → ∃ t, exec (mk c f) s = .next t ∧
      Trapped c k (s.core c).pc (s.core c).pc s1 t) ∧
    (let a := (s.core c).pc.toNat
     ¬ (a < 0x01200000 ∨ (c.val < 128 ∧ 0x01800000 ≤ a ∧ a < 0x01804000) ∨
        (c.val = 128 ∧ (0x0F000000 ≤ a ∧ a < 0x0F040000 ∨ 0x0FFF8000 ≤ a ∧ a < 0x10000000))) →
      s.fetch c f = (.trap .access, s))

/-- Loads issue (R129, R132, R135, R151): with no check of R406 against it a load is outstanding and the pc
goes on; the first check that fails is a trap. On Quince, a load whose result is held for the bank in use takes
it and makes no access (R167); which load that is, where software has changed the return address, is the
model's choice (log entry 91). -/
def Obligations.LoadsIssue : Prop :=
  ∀ (c : CoreId) (f : Option Word) (s s1 : State) (w : Word), Issues c f s w s1 →
    ∀ mk fm, opRow w = some mk → loadForm (opc w) = some fm →
    let a := s.reg c (raF w) + (w.setWidth 18 : BitVec 18).signExtend 32
    let x := s.core c
    ((c.val = 128 → ∀ r, s1.heldNow ≠ some (.load a r)) →
      (s1.accessCheck c a fm.1 .load = none →
        ∃ t, exec (mk c f) s = .next t ∧
          t = { s1 with cores := t.cores } ∧ (∀ k, k ≠ c.val → t.core k = s.core k) ∧
          t.core c = { x with
            pc := x.pc + 4
            load := some { addr := a, width := fm.1, signed := fm.2, rd := rdF w, pc := x.pc,
                           regs := x.regs, instret := x.instret, reply := none } }) ∧
      (∀ k, s1.accessCheck c a fm.1 .load = some k →
        ∃ t, exec (mk c f) s = .next t ∧ Trapped c k x.pc a s1 t)) ∧
    (c.val = 128 →
      (∀ d, s1.heldNow = some (.load a (.data d)) →
        ∃ t, exec (mk c f) s = .next t ∧
          Done c x (x.pc + 4) (rdF w)
            (extended fm.1 fm.2 (fun i => d.extractLsb' (8 * (a.toNat % 4 + i)) 8)) s1.dropHeld t) ∧
      (∀ k, s1.heldNow = some (.load a (.err k)) → k = .access ∨ k = .ecc →
        ∃ t, exec (mk c f) s = .next t ∧ Trapped c k x.pc a s1.dropHeld t))

/-- LOAD_RESPONSE (R113–R115, R129, R132, R135). Of a word of memory, through port P when a bank holds it (R101):
rd takes the bytes named, a posted store to that word comes first, and no byte of memory changes; a single-bit
error is corrected and counted, a double-bit error poisons the word and is reported, and either kind of
uncorrectable word is a trap at the load. Of a register, a descriptor or the boot ROM: rd takes its value, and
the read has its side effect; a posted store to a register comes first. -/
def Obligations.LoadReturns : Prop :=
  (∀ (c : CoreId) (s : State) (l : Load) (wa : Nat),
    (s.core c).load = some l → l.reply = none → target c l.addr = .mem wa → alignCheck l.addr l.width = none →
    s.memServes wa = true → l.rd < 16 → (s.core c).storeErr = none → (s.core c).wait = none →
    let x := { s.core c with load := none }
    let v := extended l.width l.signed (fun i => s.byte (firstByte wa l.addr + i))
    let atLoad (t : State) : Prop :=
      (if c.val = 128 then s.quince.exc = false → t.quince.cause = .ecc ∧ t.quince.epc = l.pc ∧ t.quince.eaddr = l.addr
        else (t.core c).state = .faulted ∧ (t.core c).cause = .ecc ∧ (t.core c).epc = l.pc ∧
          (t.core c).eaddr = l.addr) ∧
      (t.core c).regs = l.regs ∧ (t.core c).load = none ∧ t.mem.cells = s.mem.cells ∧
      (∀ k, t.eccAt k = if k = wa then some .poison else s.eccAt k)
    (∀ q r, (s.core c).stores = r ++ [q] → wordKey c q.addr = wordKey c l.addr → q.width = .word →
      alignCheck q.addr .word = none →
      ∃ t, exec (.loadResponse c none) s = .next t ∧
        Done c x x.pc l.rd (extended l.width l.signed
          (fun i => q.data.extractLsb' (8 * (l.addr.toNat % 4 + i)) 8)) s t) ∧
    (PortIdle s wa → (∀ q ∈ (s.core c).stores, wordKey c q.addr ≠ wordKey c l.addr) →
      (s.eccAt wa = none → ∃ t, exec (.loadResponse c none) s = .next t ∧
        Done c x x.pc l.rd v { s with tiles := t.tiles, pwr := t.pwr } t ∧ Served c wa (fun _ y => y) s t) ∧
      (∀ p, s.eccAt wa = some (.single p) → ∃ t, exec (.loadResponse c none) s = .next t ∧
        Done c x x.pc l.rd v { s with mem := t.mem, tiles := t.tiles, pwr := t.pwr } t ∧
        t.mem.cells = s.mem.cells ∧ (∀ k, t.eccAt k = if k = wa then none else s.eccAt k) ∧
        Served c wa (counted wa) s t) ∧
      (∀ i p, s.eccAt wa = some (.double i p) → ∃ t, exec (.loadResponse c none) s = .next t ∧ atLoad t ∧
        (wa < 0x400000 → (t.tile (wa / 0x8000)).ue = true) ∧
        ∃ r ∈ t.flt.inbox, r.code = 0x04 ∧ r.detail = word (4 * wa) ∧ r.time = word s.time ∧ r.injected = i) ∧
      (s.eccAt wa = some .poison → ∃ t, exec (.loadResponse c none) s = .next t ∧ atLoad t))) ∧
  (∀ (c : CoreId) (u : Option Bool) (s : State) (l : Load),
    (s.core c).load = some l → l.reply = none → l.rd < 16 → (s.core c).storeErr = none → (s.core c).wait = none →
    let x := { s.core c with load := none }
    let v (d : Word) := extended l.width l.signed (fun i => d.extractLsb' (8 * (l.addr.toNat % 4 + i)) 8)
    (∀ n, target c l.addr = .rom n → ∃ t, exec (.loadResponse c u) s = .next t ∧
      Done c x x.pc l.rd (v (Config.bootRom n)) s t) ∧
    (∀ off, target c l.addr = .desc off →
      (∀ q ∈ (s.core c).stores, wordKey c q.addr ≠ wordKey c l.addr) →
      ∃ t, exec (.loadResponse c u) s = .next t ∧ Done c x x.pc l.rd (v (s.desc (off / 4))) s t) ∧
    (∀ k o, target c l.addr = .tileReg k o →
      (s.storeWaits c l.addr = false → ∃ t, exec (.loadResponse c u) s = .next t ∧
        Done c x x.pc l.rd (v (word (s.readTile k o))) s t) ∧
      (s.storeWaits c l.addr = true → exec (.loadResponse c u) s = .next s)) ∧
    (∀ a, target c l.addr = .reg a →
      (s.storeWaits c l.addr = false → ∃ t, exec (.loadResponse c u) s = .next t ∧
        Done c { (s.readEffect c a).core c with load := none } x.pc l.rd (v (s.regValue c a))
          (s.readEffect c a) t) ∧
      (s.storeWaits c l.addr = true → exec (.loadResponse c u) s = .next s)))

/-- Stores (R132, R133, R135, R137, R406): a store goes into the posted-store buffer; a misaligned one traps
at once. STORE_PERFORM, through port P when a bank holds the word (R101), writes exactly the bytes of the
store's width, or leaves a deferred error and writes nothing; STORE_ERROR_RESPONSE is the trap of R137. -/
def Obligations.Stores : Prop :=
  (∀ (c : CoreId) (f : Option Word) (s s1 : State) (w : Word), Issues c f s w s1 →
    ∀ mk wd, opRow w = some mk → storeForm (opc w) = some wd →
    let a := s.reg c (raS w) + (w.setWidth 18 : BitVec 18).signExtend 32
    let x := s.core c
    (mapCheck c a = none ∧ alignCheck a wd ≠ none → ∃ t, exec (mk c f) s = .next t ∧
      Trapped c .align x.pc a s1 t) ∧
    (¬ (mapCheck c a = none ∧ alignCheck a wd ≠ none) → x.stores.length < 4 →
      ∃ t, exec (mk c f) s = .next t ∧
        Done c { x with stores := x.stores ++ [{ addr := a, width := wd, data := s.reg c (rbS w) }] }
          (x.pc + 4) 0 0 s1 t) ∧
    (alignCheck a wd = none → x.stores.length = 4 → exec (mk c f) s = .next s1)) ∧
  (∀ (c : CoreId) (s : State) (q : Store) (r : List Store) (wa : Nat),
    (s.core c).stores = q :: r → target c q.addr = .mem wa → alignCheck q.addr q.width = none → PortIdle s wa →
    (s.memServes wa = true → s.eccAt wa = none → ∃ t, exec (.storePerform c) s = .next t ∧
      (∀ a, t.byte a = if firstByte wa q.addr ≤ a ∧ a < firstByte wa q.addr + widthBytes q.width
        then q.data.extractLsb' (8 * (a - firstByte wa q.addr)) 8 else s.byte a) ∧
      (∀ v, t.eccAt v = s.eccAt v) ∧ t.core c = { s.core c with stores := r } ∧
      (∀ k, k ≠ c.val → t.core k = s.core k) ∧
      t = { s with mem := t.mem, memEpoch := s.memEpoch + 1, cores := t.cores, tiles := t.tiles, pwr := t.pwr } ∧
      Served c wa (fun _ y => y) s t) ∧
    (s.memServes wa = false → ∃ t, exec (.storePerform c) s = .next t ∧
      t = { s with cores := t.cores, tiles := t.tiles, pwr := t.pwr } ∧ (∀ k, k ≠ c.val → t.core k = s.core k) ∧
      t.core c = { s.core c with
        stores := r
        storeErr := match (s.core c).storeErr with
          | some e => some e
          | none => some (.access, q.addr) } ∧
      Served c wa (fun _ y => y) s t)) ∧
  (∀ (c : CoreId) (s : State) (k : Cause) (a : Word), c.val < 128 → (s.core c).storeErr = some (k, a) →
    (s.core c).load = none → (s.core c).wait = none → (s.core c).state = .running → k = .access ∨ k = .ecc →
    ∃ t, exec (.storeErrorResponse c) s = .next t ∧ (∀ j, j ≠ c.val → t.core j = s.core j) ∧
      t.core c = { s.core c with
        state := .faulted, cause := k, epc := (s.core c).pc, epcAt := some s.time, eaddr := a, deferred := true
        storeErr := none, wait := none, haltPend := false, stepping := false })

/-- AADD and ASWP on bank memory (R101, R110, R111, R135, R139): through port P, rd takes the old word and the
word takes the new one; every other byte of memory is unchanged; the checks of R406 trap in order, and nothing
happens while a posted store is still to be performed. -/
def Obligations.Atomics : Prop :=
  ∀ (c : CoreId) (f : Option Word) (s s1 : State) (w : Word) (op : Word → Word → Word)
    (mk : CoreId → Option Word → Instr), Issues c f s w s1 →
    (opc w = 0x18 ∧ mk = Instr.aadd ∧ op = (fun old b => old + b)) ∨
      (opc w = 0x19 ∧ mk = Instr.aswp ∧ op = (fun _ b => b)) →
    let a := s.reg c (raF w)
    let wa := a.toNat / 4
    (s1.released c = true → s1.accessCheck c a .word .atomic = none → s1.eccAt wa = none → PortIdle s wa →
      ∃ t, exec (mk c f) s = .next t ∧
        (t.wordAt wa = op (s1.wordAt wa) (s.reg c (rbF w))) ∧
        (∀ b, b / 4 ≠ wa → t.byte b = s1.byte b) ∧
        Done c (s.core c) ((s.core c).pc + 4) (rdF w) (s1.wordAt wa)
          { s1 with mem := t.mem, memEpoch := s1.memEpoch + 1, tiles := t.tiles, pwr := t.pwr } t ∧
        Served c wa (fun _ y => y) s1 t) ∧
    (∀ k, s1.released c = true → s1.accessCheck c a .word .atomic = some k →
      ∃ t, exec (mk c f) s = .next t ∧ Trapped c k (s.core c).pc a s1 t) ∧
    (s1.released c = false → exec (mk c f) s = .next s1) ∧
    (4 * 0x400000 ≤ a.toNat → a.toNat < 0x01200000 → a.toNat % 4 = 0 →
      s1.accessCheck c a .word .atomic = some .access)

/-- R406: the checks of a data access, in order: map, alignment, refusal. -/
def Obligations.AccessOrder : Prop :=
  ∀ (c : CoreId) (s : State) (a : Word) (w : MemWidth) (k : Access),
    (target c a = .none → s.accessCheck c a w k = some .access) ∧
    (target c a ≠ .none → a.toNat % widthBytes w ≠ 0 → s.accessCheck c a w k = some .align) ∧
    (target c a ≠ .none → a.toNat % widthBytes w = 0 → s.accessCheck c a w k = s.refusal c a w k) ∧
    (0x04000000 ≤ a.toNat → a.toNat < 0x04800000 → s.refusal c a w k = some .access) ∧
    (0x08000000 ≤ a.toNat → a.toNat < 0x09000000 → w ≠ .word ∨ k = .atomic → s.refusal c a w k = some .access) ∧
    (c.val = 128 → 0x0FFF8000 ≤ a.toNat → a.toNat < 0x10000000 → k ≠ .load → s.refusal c a w k = some .access)

/-- Reads of a tap (R144–R146): TRD of a complete word, of STAT and of an address that is no tap's, the wait
of TRD and TRDW for a word, and how that wait ends. On Quince a result that is held for the tap is taken, and
a read whose answer is on its way retires when it arrives (R167). A core that finds another reader before it waits
its turn; that readers and writers of a tap are two lines is the model's choice (log entry 35), and so is the
status where rs and rd are one register (log entry 88). -/
def Obligations.TapReads : Prop :=
  (∀ (c : CoreId) (f : Option Word) (s s1 : State) (w : Word), Issues c f s w s1 →
    let x := s.core c
    let a := s.reg c (raF w) + (w.setWidth 18 : BitVec 18).signExtend 32
    (opc w = 0x28 → s1.tapOf c a true = none → NoHeldTap s1 c false a →
      ∃ t, exec (.trd c f) s = .next t ∧ Trapped c .access x.pc a s1 t) ∧
    (opc w = 0x28 → ∀ t' j, s1.tapOf c a true = some (t', j, true) →
      ∃ t, exec (.trd c f) s = .next t ∧ Done c x (x.pc + 4) (rdF w)
        (if s1.tapTaken t' j then 0 else
          word ((if (s1.tapWord t' j).isSome then 1 else 0) + (if s1.tapBusy t' j then 2 else 0))) s1 t) ∧
    (opc w = 0x28 → ∀ t' j d, s1.tapOf c a true = some (t', j, false) → NoHeldTap s1 c false a →
      s1.firstAt t' j false = none →
      s1.tapWord t' j = some d → s1.bpOn t' j = false →
      ∃ t, exec (.trd c f) s = .next t ∧
        Done c x (x.pc + 4) (rdF w) (d.setWidth 32)
          { s1 with wires := t.wires, tapQueue := s1.tapQueue.filter (· ≠ c.val) } t ∧
        ∀ l, l < 16 → (t.node (outNode t' j l)).ack = true) ∧
    (opc w = 0x28 → ∀ t' j, s1.tapOf c a true = some (t', j, false) → NoHeldTap s1 c false a →
      s1.tapWord t' j = none ∨ s1.firstAt t' j false ≠ none →
      ∃ t, exec (.trd c f) s = .next t ∧
        t = { s1 with cores := t.cores, tapQueue := s1.tapQueue ++ [c.val] } ∧
        (∀ k, k ≠ c.val → t.core k = s.core k) ∧
        t.core c = { x with
          wait := some (.tapRead t' j (rdF w) none none), state := if c.val = 128 then x.state else .waiting }) ∧
    (opc w = 0x2A → ∀ t' j, s1.tapOf c (s.reg c (raF w)) false = some (t', j, false) →
      NoHeldTap s1 c false (s.reg c (raF w)) → s1.tapWord t' j = none ∨ s1.firstAt t' j false ≠ none →
      let n := (s.reg c (rbF w)).toNat
      ∃ t, exec (.trdw c f) s = .next t ∧
        (n = 0 → Done c x (x.pc + 4) (fld w 0 4) 3 s1 t) ∧
        (n ≠ 0 → t = { s1 with cores := t.cores, tapQueue := s1.tapQueue ++ [c.val] } ∧
          (∀ k, k ≠ c.val → t.core k = s.core k) ∧
          t.core c = { x with
            wait := some (.tapRead t' j (rdF w) (some (fld w 0 4)) (some (n + 1)))
            state := if c.val = 128 then x.state else .waiting })) ∧
    (c.val = 128 → ∀ t' j d, s1.heldNow = some (.tap false t' j d) →
      (opc w = 0x28 → target c a = .tap t' j 0 → ∃ t, exec (.trd c f) s = .next t ∧
        Done c x (x.pc + 4) (rdF w) d s1.dropHeld t) ∧
      (opc w = 0x2A → target c (s.reg c (raF w)) = .tap t' j 0 → ∃ t, exec (.trdw c f) s = .next t ∧
        DoneWith c x (x.pc + 4) (fun m => if m = fld w 0 4 then some 0 else if m = rdF w then some d else none)
          s1.dropHeld t))) ∧
  (∀ (c : CoreId) (onWay : Bool) (s : State) (t' j rd : Nat) (rs ticks : Option Nat) (d : BitVec 16),
    Waits s c (.tapRead t' j rd rs ticks) → rd < 16 → (∀ n, rs = some n → n < 16) →
    (s.tapOf c (tapAddr t' j) false).isSome = true → s.firstAt t' j false = some c.val →
    s.tapWord t' j = some d → s.bpOn t' j = false →
    ∃ t, exec (.tapWordTake (c, onWay)) s = .next t ∧
      (onWay = false ∨ c.val ≠ 128 → DoneWith c (woken c (s.core c)) ((s.core c).pc + 4)
        (fun m => if some m = rs then some 0 else if m = rd then some (d.setWidth 32) else none)
        { s with wires := t.wires, tapQueue := s.tapQueue.filter (· ≠ c.val) } t) ∧
      (onWay = true → c.val = 128 →
        t = { s with wires := t.wires, cores := t.cores, tapQueue := s.tapQueue.filter (· ≠ 128) } ∧
        (∀ k, k ≠ 128 → t.core k = s.core k) ∧
        t.core 128 = { s.core 128 with wait := some (.tapDone false t' j rd rs (d.setWidth 32)) }) ∧
      ∀ l, l < 16 → (t.node (outNode t' j l)).ack = true) ∧
  (∀ (c : CoreId) (onWay : Bool) (s : State) (t' j rd : Nat) (rs ticks : Option Nat),
    Waits s c (.tapRead t' j rd rs ticks) → s.tapOf c (tapAddr t' j) false = none →
    ∃ t, exec (.tapWordTake (c, onWay)) s = .next t ∧
      Trapped c .access (s.core c).pc (tapAddr t' j) { s with tapQueue := s.tapQueue.filter (· ≠ c.val) } t) ∧
  (∀ (c : CoreId) (onWay : Bool) (s : State) (wr : Bool) (t' j rd : Nat) (rs : Option Nat) (d : Word),
    Waits s c (.tapDone wr t' j rd rs d) → rd < 16 → (∀ n, rs = some n → n < 16) →
    ∃ t, exec (.tapWordTake (c, onWay)) s = .next t ∧
      DoneWith c (woken c (s.core c)) ((s.core c).pc + 4)
        (fun m => if some m = rs then some 0 else if m = rd then some d else none) s t) ∧
  (∀ (c : CoreId) (s : State) (t' j rd rs : Nat),
    Waits s c (.tapRead t' j rd (some rs) (some 0)) → rs < 16 →
    ∃ t, exec (.trdwTimeout c) s = .next t ∧
      DoneWith c (woken c (s.core c)) ((s.core c).pc + 4) (fun m => if m = rs then some 3 else none)
        { s with tapQueue := s.tapQueue.filter (· ≠ c.val) } t)

/-- TWR (R135, R145, R146): a free output register takes the word and the 16 inward lanes offer it; the register
is free again once every lane has completed its handshake, and then the writer whose turn it is places its word.
On Quince, a TWR that has been performed already is not performed again (R167). -/
def Obligations.TapWrites : Prop :=
  (∀ (c : CoreId) (f : Option Word) (s s1 : State) (w : Word), Issues c f s w s1 → opc w = 0x29 →
    let x := s.core c
    let a := s.reg c (raS w) + (w.setWidth 18 : BitVec 18).signExtend 32
    let d := (s.reg c (rbS w)).setWidth 16
    (s1.released c = false → exec (.twr c f) s = .next s1) ∧
    (s1.released c = true → s1.tapOf c a false = none → NoHeldTap s1 c true a →
      ∃ t, exec (.twr c f) s = .next t ∧ Trapped c .access x.pc a s1 t) ∧
    (c.val = 128 → s1.released c = true → ∀ t' j d', s1.heldNow = some (.tap true t' j d') →
      target c a = .tap t' j 0 → ∃ t, exec (.twr c f) s = .next t ∧ Done c x (x.pc + 4) 0 0 s1.dropHeld t) ∧
    (∀ t' j st, s1.released c = true → s1.tapOf c a false = some (t', j, st) → NoHeldTap s1 c true a →
      (s1.tapBusy t' j = false → s1.firstAt t' j true = none →
        ∃ t, exec (.twr c f) s = .next t ∧
          Done c x (x.pc + 4) 0 0
            { s1 with wires := t.wires, tiles := t.tiles, tapQueue := s1.tapQueue.filter (· ≠ c.val) } t ∧
          t.tapBusy t' j = true ∧ ∀ l, l < 16 → Offers t t' j l (d.getLsbD l)) ∧
      (s1.tapBusy t' j = true ∨ s1.firstAt t' j true ≠ none →
        ∃ t, exec (.twr c f) s = .next t ∧
          t = { s1 with cores := t.cores, tapQueue := s1.tapQueue ++ [c.val] } ∧
          (∀ k, k ≠ c.val → t.core k = s.core k) ∧
          t.core c = { x with
            wait := some (.tapWrite t' j d), state := if c.val = 128 then x.state else .waiting }))) ∧
  (∀ (t' : TileId) (j : Fin 16) (onWay : Bool) (s : State), s.tapBusy t' j = true →
    (s.tapFree t' j = false → exec (.tapRegisterFree t' (j, onWay)) s = .next s) ∧
    (s.tapFree t' j = true → s.firstAt t' j true = none →
      ∃ t, exec (.tapRegisterFree t' (j, onWay)) s = .next t ∧ t = { s with tiles := t.tiles } ∧
        (∀ k, k ≠ t'.val → t.tile k = s.tile k) ∧ t.tapBusy t' j = false ∧
        t.tile t' = { s.tile t' with tapTx := (t.tile t').tapTx }) ∧
    (∀ (c : CoreId) (d : BitVec 16), s.tapFree t' j = true → s.firstAt t' j true = some c.val →
      Waits s c (.tapWrite t' j d) → (s.tapOf c (tapAddr t' j) false).isSome = true →
      ∃ t, exec (.tapRegisterFree t' (j, onWay)) s = .next t ∧ t.tapBusy t' j = true ∧
        (∀ l, l < 16 → Offers t t' j l (d.getLsbD l)) ∧
        (onWay = false ∨ c.val ≠ 128 → DoneWith c (woken c (s.core c)) ((s.core c).pc + 4) (fun _ => none)
          { s with wires := t.wires, tiles := t.tiles, tapQueue := s.tapQueue.filter (· ≠ c.val) } t) ∧
        (onWay = true → c.val = 128 → t.core 128 = { s.core 128 with wait := some (.tapDone true t' j 0 none 0) })))

/-- Events (R147, R148): EVW takes what its mask finds, EVSET and TILE_EVT_SET set bits of an engine that is
neither OFF nor FENCED, and a wait ends when a bit that it waits for is set. On Quince EVW waits for an interrupt
that is ready to be taken, and retires with 0. -/
def Obligations.Events : Prop :=
  (∀ (c : CoreId) (f : Option Word) (s s1 : State) (w : Word), Issues c f s w s1 → opc w = 0x30 →
    c.val < 128 →
    let x := s.core c
    let m := (s.reg c (raF w)).setWidth 16
    let v := (s1.tile c).evt &&& m
    (m = 0 ∨ v ≠ 0 → ∃ t, exec (.evw c f) s = .next t ∧
      Done c x (x.pc + 4) (rdF w) (v.setWidth 32) { s1 with tiles := t.tiles } t ∧
      (∀ k, k ≠ c.val → t.tile k = s1.tile k) ∧
      t.tile c = { s1.tile c with
        evt := if w.getLsbD 0 then (s1.tile c).evt else (s1.tile c).evt &&& ~~~v }) ∧
    (m ≠ 0 → v = 0 → ∃ t, exec (.evw c f) s = .next t ∧ t = { s1 with cores := t.cores } ∧
      (∀ k, k ≠ c.val → t.core k = s.core k) ∧
      t.core c = { x with wait := some (.evw m (rdF w) (w.getLsbD 0)), state := .waiting })) ∧
  (∀ (f : Option Word) (s s1 : State) (w : Word), Issues 128 f s w s1 → opc w = 0x30 →
    let x := s.core 128
    ∃ t, exec (.evw 128 f) s = .next t ∧
      (s1.ready ≠ none → Done 128 x (x.pc + 4) (rdF w) 0 s1 t) ∧
      (s1.ready = none → t = { s1 with cores := t.cores } ∧ (∀ k, k ≠ 128 → t.core k = s.core k) ∧
        t.core 128 = { x with wait := some (.evwQuince (rdF w)) })) ∧
  (∀ (s : State) (rd : Nat), Waits s 128 (.evwQuince rd) → rd < 16 →
    (s.ready = none → exec (.evwWake 128) s = .next s) ∧
    (s.ready ≠ none → ∃ t, exec (.evwWake 128) s = .next t ∧
      DoneWith 128 (woken 128 (s.core 128)) ((s.core 128).pc + 4) (fun n => if n = rd then some 0 else none) s t)) ∧
  (∀ (c : CoreId) (f : Option Word) (s s1 : State) (w : Word), Issues c f s w s1 → opc w = 0x31 →
    let x := s.core c
    let e := s.reg c (raF w)
    (s1.released c = true → e.toNat < 128 →
      (s.core e.toNat).state ≠ .off → (s.core e.toNat).state ≠ .fenced →
      ∃ t, exec (.evset c f) s = .next t ∧ Done c x (x.pc + 4) 0 0 { s1 with tiles := t.tiles } t ∧
        (∀ k, k ≠ e.toNat → t.tile k = s1.tile k) ∧
        t.tile e.toNat = { s1.tile e.toNat with
          evt := (s1.tile e.toNat).evt ||| (s.reg c (rbF w)).setWidth 16 }) ∧
    (s1.released c = true → e.toNat < 128 →
      (s.core e.toNat).state = .off ∨ (s.core e.toNat).state = .fenced →
      ∃ t, exec (.evset c f) s = .next t ∧ Done c x (x.pc + 4) 0 0 s1 t) ∧
    (s1.released c = true → 128 ≤ e.toNat →
      ∃ t, exec (.evset c f) s = .next t ∧ Trapped c .access x.pc e s1 t)) ∧
  (∀ (t' : TileId) (b : Fin 16) (s : State), (s.core t').state ≠ .off → (s.core t').state ≠ .fenced →
    exec (.tileEvtSet t' b) s = .next
      (s.setTile t' { s.tile t' with evt := (s.tile t').evt ||| BitVec.ofNat 16 (2 ^ b.val) })) ∧
  (∀ (c : CoreId) (s : State) (m : BitVec 16) (rd : Nat) (peek : Bool), Waits s c (.evw m rd peek) →
    rd < 16 → (s.tile c).evt &&& m ≠ 0 →
    let v := (s.tile c).evt &&& m
    ∃ t, exec (.evwWake c) s = .next t ∧
      DoneWith c (woken c (s.core c)) ((s.core c).pc + 4) (fun n => if n = rd then some (v.setWidth 32) else none)
        { s with tiles := t.tiles } t ∧
      (∀ k, k ≠ c.val → t.tile k = s.tile k) ∧
      t.tile c = { s.tile c with evt := if peek then (s.tile c).evt else (s.tile c).evt &&& ~~~v })

/-- SYS, HALT, TRAP and IRET (R129, R150, R151, R154, R165, R166): each stop records its cause; IRET leaves the
context that Quince entered last and goes on at its return address, and with none active it is ILLEGAL. -/
def Obligations.StopsAndReturn : Prop :=
  (∀ (c : CoreId) (f : Option Word) (s s1 : State) (w : Word) (k : Cause)
    (mk : CoreId → Option Word → Instr), Issues c f s w s1 →
    (opc w = 0x32 ∧ mk = Instr.sys ∧ k = .sys) ∨ (opc w = 0x3E ∧ mk = Instr.halt ∧ k = .halt) ∨
      (opc w = 0x3F ∧ mk = Instr.trap ∧ k = .trap) →
    (s1.released c = true → ∃ t, exec (mk c f) s = .next t ∧
      Trapped c k ((s.core c).pc + 4) ((w.setWidth 26 : BitVec 26).setWidth 32) s1 t) ∧
    (s1.released c = false → exec (mk c f) s = .next s1)) ∧
  (∀ (c : CoreId) (f : Option Word) (s s1 : State) (w : Word), Issues c f s w s1 → opc w = 0x3C →
    let q := s.quince
    (q.ctxs = [] → ∃ t, exec (.iret c f) s = .next t ∧ Trapped c .illegal (s.core c).pc w s1 t) ∧
    (∀ ctx r, q.ctxs = ctx :: r → (s.core c).stepping = false → (s.core c).haltPend = false →
      ∃ t, exec (.iret c f) s = .next t ∧ t = { s1 with cores := t.cores, quince := t.quince } ∧
        (∀ k, k ≠ c.val → t.core k = s.core k) ∧
        (match ctx with
          | .bank2 l => t.quince = { q with ctxs := r, lvl := l } ∧ (t.core c).pc = q.ipc2 &&& 0xFFFFFFFC#32
          | .bank1 l => t.quince = { q with ctxs := r, lvl := l } ∧ (t.core c).pc = q.ipc1 &&& 0xFFFFFFFC#32
          | .trap => t.quince = { q with ctxs := r, ie := q.pie, exc := false } ∧
              (t.core c).pc = q.epc &&& 0xFFFFFFFC#32) ∧
        t.core c = { s.core c with pc := (t.core c).pc, instret := ((s.core c).instret + 1) % 2 ^ 64 }))

/-- FENCE, CSRR and CSRW (R136, R149, R163): the common CSRs, the latches, and what Quince's privileged ones
hold; a Cobbler's access to those, and a write of a read-only one, are ILLEGAL. -/
def Obligations.CsrsAndFence : Prop :=
  ∀ (c : CoreId) (f : Option Word) (s s1 : State) (w : Word), Issues c f s w s1 →
    let x := s.core c
    let n := fld w 0 18
    let v := s.reg c (raF w)
    (opc w = 0x33 → s1.released c = true → ∃ t, exec (.fence c f) s = .next t ∧
      Done c { x with fetchEpoch := s1.memEpoch } (x.pc + 4) 0 0 s1 t) ∧
    (opc w = 0x33 → s1.released c = false → exec (.fence c f) s = .next s1) ∧
    (opc w = 0x38 → ∀ y r,
      (n = 0x000 ∧ y = x ∧ r = word c) ∨
      (n = 0x001 ∧ y = { x with instretLatch := word (x.instret / 2 ^ 32) } ∧ r = word x.instret) ∨
      (n = 0x002 ∧ y = x ∧ r = x.instretLatch) ∨
      (n = 0x003 ∧ y = { x with timeLatch := word (s.time / 2 ^ 32) } ∧ r = word s.time) ∨
      (n = 0x004 ∧ y = x ∧ r = x.timeLatch) ∨
      (n = 0x008 ∧ y = x ∧ r = x.scratch0) ∨ (n = 0x009 ∧ y = x ∧ r = x.scratch1) ∨
      (c.val = 128 ∧ y = x ∧
        ((n = 0x100 ∧ r = s.quince.status) ∨ (n = 0x101 ∧ r = s.quince.vbase) ∨
         (n = 0x102 ∧ r = s.quince.epc) ∨ (n = 0x103 ∧ r = word s.quince.cause.code) ∨
         (n = 0x104 ∧ r = s.quince.eaddr) ∨ (n = 0x105 ∧ r = s.quince.ipc1) ∨
         (n = 0x106 ∧ r = s.quince.ipc2))) →
      ∃ t, exec (.csrr c f) s = .next t ∧ Done c y (x.pc + 4) (rdF w) r s1 t) ∧
    (opc w = 0x38 → (9 < n ∧ (n < 0x100 ∨ 0x106 < n ∨ c.val ≠ 128)) ∨ (4 < n ∧ n < 8) →
      ∃ t, exec (.csrr c f) s = .next t ∧ Trapped c .illegal x.pc w s1 t) ∧
    (opc w = 0x39 → n = 0x008 → ∃ t, exec (.csrw c f) s = .next t ∧
      Done c { x with scratch0 := v } (x.pc + 4) 0 0 s1 t) ∧
    (opc w = 0x39 → n = 0x009 → ∃ t, exec (.csrw c f) s = .next t ∧
      Done c { x with scratch1 := v } (x.pc + 4) 0 0 s1 t) ∧
    (opc w = 0x39 → c.val = 128 → ∀ q,
      (n = 0x100 ∧ q = { s.quince with ie := v.getLsbD 0, pie := v.getLsbD 1 }) ∨
      (n = 0x101 ∧ q = { s.quince with vbase := v &&& 0xFFFFFFFC#32 }) ∨
      (n = 0x102 ∧ q = { s.quince with epc := v }) ∨
      (n = 0x105 ∧ q = { s.quince with ipc1 := v }) ∨ (n = 0x106 ∧ q = { s.quince with ipc2 := v }) →
      ∃ t, exec (.csrw c f) s = .next t ∧ Done c x (x.pc + 4) 0 0 { s1 with quince := q } t) ∧
    (opc w = 0x39 → n < 8 ∨ (9 < n ∧ n < 0x100) ∨ n = 0x103 ∨ n = 0x104 ∨ 0x106 < n ∨
        (0x100 ≤ n ∧ c.val ≠ 128) →
      ∃ t, exec (.csrw c f) s = .next t ∧ Trapped c .illegal x.pc w s1 t)

/-- PINR and PINW (R162, R241, R242): the level at the pad and the two latches, or ACCESS for a pin that
does not exist. -/
def Obligations.PinInstructions : Prop :=
  (∀ (c : CoreId) (f : Option Word) (ball : Option Bool) (s s1 : State) (w : Word), Issues c f s w s1 →
    opc w = 0x3A →
    let p := s.reg c (raF w) + (w.setWidth 18 : BitVec 18).signExtend 32
    let a := s1.samplePad p.toNat ball
    let y := s1.pin p.toNat
    (p.toNat < 576 → ∃ t, exec (.pinr c f ball) s = .next t ∧
      Done c (s.core c) ((s.core c).pc + 4) (rdF w)
        (word ((if a.1 then 1 else 0) + (if y.outLatch then 2 else 0) + (if y.oeLatch then 4 else 0)))
        { s1 with pins := t.pins, freeCtr := t.freeCtr } t) ∧
    (576 ≤ p.toNat → ∃ t, exec (.pinr c f ball) s = .next t ∧ Trapped c .access (s.core c).pc p s1 t)) ∧
  (∀ (c : CoreId) (f : Option Word) (s s1 : State) (w : Word), Issues c f s w s1 → opc w = 0x3B →
    let p := s.reg c (raS w) + (w.setWidth 18 : BitVec 18).signExtend 32
    (p.toNat < 576 → ∃ t, exec (.pinw c f) s = .next t ∧
      (t.pin p.toNat).outLatch = (s.reg c (rbS w)).getLsbD 0 ∧
      (t.pin p.toNat).oeLatch = (s.reg c (rbS w)).getLsbD 1 ∧
      (∀ k, k ≠ p.toNat → (t.pin k).outLatch = (s1.pin k).outLatch ∧ (t.pin k).oeLatch = (s1.pin k).oeLatch) ∧
      Done c (s.core c) ((s.core c).pc + 4) 0 0 { s1 with pins := t.pins } t) ∧
    (576 ≤ p.toNat → ∃ t, exec (.pinw c f) s = .next t ∧ Trapped c .access (s.core c).pc p s1 t))

/-- TILE_CTRL (R154, R155): start, resume, step and halt act in the states that R154 names and in no
other, and touch nothing but their engine. -/
def Obligations.EngineControl : Prop :=
  ∀ (e : TileId) (s : State),
    let x := s.core e
    (x.state = .halted ∨ x.state = .faulted →
      exec (.start e) s = .next (s.setCore e { x with
        pc := 0x01800000#32, regs := [], state := .running, cause := .none, instret := 0, scratch0 := 0,
        scratch1 := 0, fetchEpoch := s.memEpoch })) ∧
    (¬ (x.state = .halted ∨ x.state = .faulted) → exec (.start e) s = .next s) ∧
    (x.state = .halted ∨ x.state = .faulted ∨ x.state = .sys →
      exec (.resume e) s = .next (s.setCore e { x with
        pc := x.epc, state := .running, stepping := false, fetchEpoch := s.memEpoch })) ∧
    (¬ (x.state = .halted ∨ x.state = .faulted ∨ x.state = .sys) → exec (.resume e) s = .next s) ∧
    (x.state = .halted → exec (.step e) s = .next (s.setCore e { x with
        pc := x.epc, state := .running, stepping := true, fetchEpoch := s.memEpoch })) ∧
    (x.state ≠ .halted → exec (.step e) s = .next s) ∧
    (x.state = .running → x.load = none → x.wait = none → x.storeErr = none →
      exec (.haltRequest e) s = .next (s.setCore e { x with
        state := .halted, cause := .haltreq, epc := x.pc, epcAt := some s.time, eaddr := 0, deferred := false,
        wait := none, haltPend := false, stepping := false })) ∧
    (x.state ≠ .running → x.state ≠ .waiting → exec (.haltRequest e) s = .next s)

/-- TILE_TIMER and the engine watchdog (R147, R150, R152, R157, R355). -/
def Obligations.EngineTimers : Prop :=
  (∀ (e : TileId) (v : Word) (s : State),
    exec (.tileTimerWrite e v) s = .next (s.setTile e { s.tile e with
      timerCount := v.setWidth 28, timerPeriodic := v.getLsbD 28
      timerReload := if v.setWidth 28 = 0#28 then (s.tile e).timerReload else v.setWidth 28 })) ∧
  (∀ (e : TileId) (s : State), (s.tile e).timerCount ≠ 0 →
    (s.core e).state ≠ .off → (s.core e).state ≠ .fenced →
    ∃ t, exec (.tileTimerExpiry e) s = .next t ∧ t = { s with tiles := t.tiles } ∧
      (∀ k, k ≠ e.val → t.tile k = s.tile k) ∧
      t.tile e = { s.tile e with
        timerCount := if (s.tile e).timerPeriodic then (s.tile e).timerReload else 0
        evt := (s.tile e).evt ||| 0x8000#16 }) ∧
  (∀ (e : TileId) (s : State), s.flt.ewdog ≠ 0 → (s.core e).state = .running → (s.core e).load = none →
    (s.core e).wait = none →
    ∃ t, exec (.engWdog e) s = .next t ∧ (∀ k, k ≠ e.val → t.core k = s.core k) ∧
      t.core e = { s.core e with
        state := .faulted, cause := .wdog, epc := (s.core e).pc, epcAt := some s.time, eaddr := 0, deferred := false,
        wait := none, haltPend := false, stepping := false } ∧
      t = { s with cores := t.cores, flt := { s.flt with inbox := s.flt.inbox ++
        [{ Report.of 0x06 with time := word s.time, tile := e, cause := 8, detail := (s.core e).pc }] } })

/-- Interrupts (R164, R166, R325–R327): the presented source is taken with its level, its bank, its return
address and its vector; INTC_ACK ends its service and it waits to be sampled again. With INTC_VBASE at its reset
value, source 0 is served by the boot ROM's handler (R323), which runs to its end with the entry; what it leaves in
shadow bank 2 and INSTRET is free, and that its run is one command is the model's choice (log entry 87). -/
def Obligations.Interrupts : Prop :=
  (∀ (s : State) (n : Nat), s.ready = some n → (s.core 128).wait = none → (s.core 128).load = none →
    (s.core 128).stepping = false → (s.core 128).haltPend = false →
    let l := s.intc.levelOf n
    let q := s.quince
    (l = 15 → word (s.intc.vbase.toNat * 4096 + 16 * n) ≠ 0x0FFFF000#32) →
    ∃ t, exec .interruptEntry s = .next t ∧ t = { s with cores := t.cores, quince := t.quince, intc := t.intc } ∧
      (∀ k, k ≠ 128 → t.core k = s.core k) ∧
      t.core 128 = { s.core 128 with pc := word (s.intc.vbase.toNat * 4096 + 16 * n) } ∧
      t.quince = (if l = 15 then { q with ipc2 := (s.core 128).pc, ctxs := .bank2 q.lvl :: q.ctxs, lvl := 15 }
        else { q with ipc1 := (s.core 128).pc, ctxs := .bank1 q.lvl :: q.ctxs, lvl := l }) ∧
      t.intc = { s.intc with inService := s.intc.inService ++ [n], lastSrc := n, lastLevel := l } ∧
      (l = 15 → t.bankOf 128 = 2) ∧ (l ≠ 15 → q.ie = true ∧ t.bankOf 128 = 1)) ∧
  (∀ (s : State), s.ready = some 0 → (s.core 128).wait = none → (s.core 128).load = none →
    (s.core 128).stepping = false → (s.core 128).haltPend = false →
    word (s.intc.vbase.toNat * 4096) = 0x0FFFF000#32 →
    ∃ t, exec .interruptEntry s = .next t ∧
      t = { s with
        cores := t.cores, freeCtr := t.freeCtr, pwr := { s.pwr with vwarn := false }
        quince := { s.quince with ipc2 := (s.core 128).pc }
        intc := { s.intc with
          inService := s.intc.inService.filter (· ≠ 0), resample := s.intc.resample ++ [0]
          lastSrc := 0, lastLevel := 15 } } ∧
      (∀ k, k ≠ 128 → t.core k = s.core k) ∧
      t.core 128 = { s.core 128 with
        pc := (s.core 128).pc &&& 0xFFFFFFFC#32, regs := (t.core 128).regs, instret := (t.core 128).instret } ∧
      ∀ b m, b ≠ 2 → m < 16 → t.regIn 128 b m = s.regIn 128 b m) ∧
  (∀ (s : State), s.ready = none → exec .interruptEntry s = .next s) ∧
  (∀ (s : State) (n : Byte), s.intc.inService.contains n.toNat = true →
    exec (.intcAck n) s = .next { s with intc := { s.intc with
      inService := s.intc.inService.filter (· ≠ n.toNat), resample := s.intc.resample ++ [n.toNat] } } ∧
    ∀ t, exec (.intcAck n) s = .next t → t.presentable n.toNat = false) ∧
  (∀ (s : State) (n : Byte), exec (.intcResample n) s = .next { s with intc := { s.intc with
    resample := s.intc.resample.filter (· ≠ n.toNat) } })

/-- Queue instructions (R135, R140, R141, R168, R185, R186, R407): once released, the core waits and its request,
made of the fields of the word, sets out on the shortest path to the home node, where it joins those that have
arrived; a number with a bit in [31:14] is answered with RANGE, and an isolated node in another quadrant with
FAULT. On Quince a held result is taken and nothing is sent (R167); by which queue instruction, where software has
changed the return address, is the model's choice (log entry 91). -/
def Obligations.QueueRequests : Prop :=
  ∀ (c : CoreId) (f : Option Word) (s s1 : State) (w : Word) (mk : CoreId → Option Word → Instr) (op : LaceOp),
    Issues c f s w s1 → opRow w = some mk → queueOp (opc w) = some op →
    (s1.released c = false → exec (mk c f) s = .next s1) ∧
    (s1.released c = true → (c.val = 128 → ∀ code v, s1.heldNow ≠ some (.queue code v)) → s1.lace.linkFail = 0 →
      let x := s.core c
      let ra := s.reg c (raF w)
      let way := path (if c.val = 128 then 0 else c.val / 32) (ra.toNat / 4096)
      ∃ t, exec (mk c f) s = .next t ∧
        t = { s1 with cores := t.cores, lace := { s1.lace with
          reqs := t.lace.reqs
          arrived := if ra.toNat < 0x4000 ∧ way = [] then s1.lace.arrived.filter (· ≠ c.val) ++ [c.val]
            else s1.lace.arrived } } ∧
        (∀ k, k ≠ c.val → t.core k = s.core k ∧ t.req k = s1.req k) ∧
        t.core c = { x with
          wait := some .queue
          state := if c.val < 128 ∧ (op = .pop ∨ op = .wait) then .waiting else x.state } ∧
        (t.req c).op = op ∧ (t.req c).queue = (ra.setWidth 14).toNat ∧ (t.req c).wide = w.getLsbD 4 ∧
        (t.req c).rd = rdF w ∧ (t.req c).rs = fld w 0 4 ∧ (t.req c).eyelet = false ∧
        (op = .push → (t.req c).data = (if w.getLsbD 4 then s.reg c (rbF w + 1) ++ s.reg c (rbF w)
          else (s.reg c (rbF w)).setWidth 64)) ∧
        (op = .wait → (t.req c).ticks = (s.reg c (rbF w)).toNat) ∧
        (ra.toNat < 0x4000 → (t.req c).phase = .request ∧ (t.req c).route = way) ∧
        (0x4000 ≤ ra.toNat → Answered t c 6 0 ∧ (t.req c).route = [])) ∧
    (s1.released c = true → (c.val = 128 → ∀ code v, s1.heldNow ≠ some (.queue code v)) →
      let n := (s.reg c (raF w)).toNat
      n < 0x4000 → n / 4096 ≠ (if c.val = 128 then 0 else c.val / 32) →
      (∀ l ∈ nodeLinks (n / 4096), s1.lace.linkFail.getLsbD l = true) →
      ∃ t, exec (mk c f) s = .next t ∧ Answered t c 7 0 ∧ (t.req c).route = [] ∧ (t.core c).wait = some .queue) ∧
    (c.val = 128 → s1.released c = true → ∀ code v, s1.heldNow = some (.queue code v) →
      ∃ t, exec (mk c f) s = .next t ∧ Answered t c code v ∧ (t.req c).route = [] ∧ (t.core c).wait = some .queue ∧
        t = { s1.dropHeld with cores := t.cores, lace := { s1.lace with reqs := t.lace.reqs } } ∧
        ∀ k, k ≠ c.val → t.req k = s1.req k)

/-- The order of a node's statuses (R407): the first condition of items 2 to 6 that an operation breaks is
the status it returns, and the queue is left alone. Whom the table of R175 admits; and no request is performed
before one that reached the same queue earlier (R168). -/
def Obligations.NodeStatusOrder : Prop :=
  (∀ (q k : Nat) (s : State),
    let own := k = 128 ∨ (k < 128 ∧ s.qOwner q = k) ∨ (256 ≤ k ∧ s.qOwner q = 255)
    (s.qKind q = 0 ∨ s.qKind q = 3 → s.admits q k true = true ∧ s.admits q k false = true) ∧
    (s.qKind q = 1 → (s.admits q k true = true ↔ own) ∧ (s.admits q k false = true ↔ own)) ∧
    (s.qKind q = 2 → s.admits q k true = true ∧ (s.admits q k false = true ↔ own))) ∧
  (∀ (k : LaceCaller) (j : Nat) (s : State), s.firstOn (s.req (callerKey k)).queue = some j → j ≠ callerKey k →
    ∀ i ∈ [Instr.nodePush k, Instr.nodePop k, Instr.nodeSteal k, Instr.nodeStat k], exec i s = .next s) ∧
  ∀ (k : LaceCaller) (i : Instr) (s : State) (code : Nat),
    let r := s.req (callerKey k)
    let q := r.queue
    s.atNode (callerKey k) = true →
    (i = .nodePush k ∧ r.op = .push) ∨ (i = .nodePop k ∧ (r.op = .pop ∨ r.op = .try ∨ r.op = .wait ∨ r.op = .take)) ∨
      (i = .nodeSteal k ∧ r.op = .steal) ∨ (i = .nodeStat k ∧ r.op = .stat) →
    (let denied := (r.op = .push ∧ s.admits q (callerKey k) true = false) ∨
        ((r.op = .pop ∨ r.op = .try ∨ r.op = .wait ∨ r.op = .take) ∧ s.admits q (callerKey k) false = false) ∨
        (r.op = .steal ∧ s.qSteal q = false)
     let kindBad := s.qInvalid q = true ∨ ((r.op = .steal ∨ r.op = .take) ∧ s.qKind q ≠ 1)
     (kindBad ∧ code = 4) ∨ (¬ kindBad ∧ denied ∧ code = 5) ∨
     (¬ kindBad ∧ ¬ denied ∧ s.widthOk q r = false ∧ code = 4) ∨
     (¬ kindBad ∧ ¬ denied ∧ s.widthOk q r = true ∧ s.ringOk q = false ∧ code = 7)) →
    ∃ t, exec i s = .next t ∧ Answered t (callerKey k) code 0 ∧ (t.req (callerKey k)).route = r.back ∧
      t.mem = s.mem ∧ t.lace.desc = s.lace.desc ∧ (∀ j, j ≠ callerKey k → t.req j = s.req j)

/-- Node operations that pass their checks, with nobody waiting (R168, R170, R173–R175, R177): where an entry
of one or of two words goes in, where it comes out, the occupancy, which is all that an EVENT queue has, FULL,
EMPTY, the waits of QPOP, of QWAIT with its timeout and of an eyelet push, and the watermark. And the hand-over: a
push to a queue with a pop waiter gives its entry, or on an EVENT queue the count with it, to the oldest of them,
and neither the ring nor the descriptor changes; a removal from a queue with a push waiter appends the oldest
waiting push. -/
def Obligations.NodeOperations : Prop :=
  (∀ (k : LaceCaller) (s : State),
    let key := callerKey k
    let r := s.req key
    let q := r.queue
    s.atNode key = true → s.nodeCheck key r = none → s.lace.waiters = [] → (s.qFull q = true → s.qTail q = s.qHead q) →
    (s.qKind q ≠ 3 → ∀ i, i < s.qCap q → SlotClean s q i) →
    let others := fun (t : State) => (∀ j, j ≠ key → t.req j = s.req j) ∧ t.cores = s.cores
    let kept := fun (t : State) => t.mem = s.mem ∧ t.lace.desc = s.lace.desc
    (r.op = .push → s.qCount q < s.qCap q → ∃ t, exec (.nodePush k) s = .next t ∧ Answered t key 0 0 ∧
      others t ∧ t.qCount q = s.qCount q + 1 ∧ t.qHead q = s.qHead q ∧ t.qTail q = (s.qTail q + 1) % s.qCap q ∧
      (s.qKind q = 3 → t.mem = s.mem) ∧
      (s.qKind q ≠ 3 → entryAt t q (s.qTail q) =
          (if s.qWide q then r.data else (r.data.setWidth 32 : Word).setWidth 64) ∧
        ∀ a, a < s.slotAddr q (s.qTail q) ∨ s.slotAddr q (s.qTail q) + (if s.qWide q then 8 else 4) ≤ a →
          t.byte a = s.byte a) ∧
      (if s.qMark q ≠ 0 ∧ s.qCount q + 1 = s.qMark q ∧ s.qOwner q ≤ 128 then
        (s.qOwner q < 128 → (s.core (s.qOwner q)).state ≠ .off → (s.core (s.qOwner q)).state ≠ .fenced →
          (t.tile (s.qOwner q)).evt = (s.tile (s.qOwner q)).evt ||| BitVec.ofNat 16 (2 ^ s.qEvbit q)) ∧
        (s.qOwner q = 128 → SMap.read (fun _ => 0) t.lace.nirqPend (q / 4096) =
          SMap.read (fun _ => 0) s.lace.nirqPend (q / 4096) ||| BitVec.ofNat 16 (2 ^ s.qEvbit q))
      else (∀ e, (t.tile e).evt = (s.tile e).evt) ∧ t.lace.nirqPend = s.lace.nirqPend)) ∧
    (r.op = .push → s.qCount q = s.qCap q →
      (r.eyelet = false → ∃ t, exec (.nodePush k) s = .next t ∧ Answered t key 2 0 ∧ others t ∧ kept t) ∧
      (r.eyelet = true → ∃ t, exec (.nodePush k) s = .next t ∧ (t.req key).phase = .waiting ∧ others t ∧ kept t ∧
        t.lace.waiters = [{ caller := key, queue := q, isPush := true, ticks := none }])) ∧
    (r.op = .pop ∨ r.op = .try ∨ r.op = .wait ∨ r.op = .take → 0 < s.qCount q →
      let i := if s.qKind q = 1 then (s.qTail q + s.qCap q - 1) % s.qCap q else s.qHead q
      ∃ t, exec (.nodePop k) s = .next t ∧
        Answered t key 0 (if s.qKind q = 3 then BitVec.ofNat 64 (s.qCount q) else entryAt s q i) ∧
        others t ∧ t.mem = s.mem ∧ t.qCount q + 1 = s.qCount q ∧
        t.qHead q = (if s.qKind q = 1 then s.qHead q else (s.qHead q + 1) % s.qCap q) ∧
        t.qTail q = (if s.qKind q = 1 then i else s.qTail q)) ∧
    (r.op = .try ∨ r.op = .take → s.qCount q = 0 → ∃ t, exec (.nodePop k) s = .next t ∧
      Answered t key 1 0 ∧ others t ∧ kept t) ∧
    (r.op = .pop → s.qCount q = 0 → ∃ t, exec (.nodePop k) s = .next t ∧
      (t.req key).phase = .waiting ∧ others t ∧ kept t ∧
      t.lace.waiters = [{ caller := key, queue := q, isPush := false, ticks := none }]) ∧
    (r.op = .wait → s.qCount q = 0 →
      let n := if r.ticks = 0 then s.qTmo q else r.ticks
      let low := if s.lace.minTicks = 0 then 1 else s.lace.minTicks.toNat
      ∃ t, exec (.nodePop k) s = .next t ∧ (t.req key).phase = .waiting ∧ others t ∧ kept t ∧
        t.lace.waiters = [{ caller := key, queue := q, isPush := false
                            ticks := if n = 0 then none else some (max n low + 1 - r.aged) }]) ∧
    (r.op = .steal → 0 < s.qCount q → ∃ t, exec (.nodeSteal k) s = .next t ∧
      Answered t key 0 (entryAt s q (s.qHead q)) ∧ others t ∧ t.mem = s.mem ∧
      t.qCount q + 1 = s.qCount q ∧ t.qHead q = (s.qHead q + 1) % s.qCap q ∧ t.qTail q = s.qTail q) ∧
    (r.op = .steal → s.qCount q = 0 → ∃ t, exec (.nodeSteal k) s = .next t ∧
      Answered t key 1 0 ∧ others t ∧ kept t) ∧
    (r.op = .stat → ∃ t, exec (.nodeStat k) s = .next t ∧
      Answered t key 0 (BitVec.ofNat 64 (s.qCount q)) ∧ others t ∧ kept t)) ∧
  ∀ (k : LaceCaller) (s : State) (w : Waiter),
    let key := callerKey k
    let r := s.req key
    let q := r.queue
    s.atNode key = true → s.nodeCheck key r = none → w.caller ≠ key →
    let others := fun (t : State) => (∀ j, j ≠ key → j ≠ w.caller → t.req j = s.req j) ∧ t.cores = s.cores ∧
      t.lace.waiters = s.lace.waiters.filter (fun u => u.caller ≠ w.caller)
    (r.op = .push → s.oldestWaiter q false = some w → ∃ t, exec (.nodePush k) s = .next t ∧ Answered t key 0 0 ∧
      Answered t w.caller 0 (if s.qKind q = 3 then BitVec.ofNat 64 (s.qCount q + 1) else r.data) ∧
      (t.req w.caller).due = w.ticks ∧ (t.req w.caller).route = (s.req w.caller).back ∧
      others t ∧ t.mem = s.mem ∧ t.lace.desc = s.lace.desc ∧ t.tiles = s.tiles) ∧
    (r.op = .pop ∨ r.op = .try ∨ r.op = .wait → s.qKind q ≠ 1 → 0 < s.qCount q →
      (s.qFull q = true → s.qTail q = s.qHead q) → (s.qKind q ≠ 3 → ∀ i, i < s.qCap q → SlotClean s q i) →
      s.oldestWaiter q true = some w →
      let data := (s.req w.caller).data
      ∃ t, exec (.nodePop k) s = .next t ∧
        Answered t key 0 (if s.qKind q = 3 then BitVec.ofNat 64 (s.qCount q) else entryAt s q (s.qHead q)) ∧
        Answered t w.caller 0 0 ∧ others t ∧ t.qCount q = s.qCount q ∧
        t.qHead q = (s.qHead q + 1) % s.qCap q ∧ t.qTail q = (s.qTail q + 1) % s.qCap q ∧
        (s.qKind q ≠ 3 → entryAt t q (s.qTail q) =
          if s.qWide q then data else (data.setWidth 32 : Word).setWidth 64))

/-- QUEUE_RESPONSE and WAITER_TIMEOUT (R142, R173, R174): rs takes the status, rd the entry of an OK and
nothing else; a waiter whose timeout has run out is answered TIMEOUT. That rs keeps the status where it is one
register with rd is the model's choice (log entry 88). -/
def Obligations.QueueAnswers : Prop :=
  (∀ (c : CoreId) (s : State) (code src : Nat) (v : DWord), Waits s c .queue →
    let r := s.req c
    r.route = [] → r.phase = .answer code v src → r.victim = none → r.rd + 1 < 16 → r.rs < 16 → code < 16 →
    ¬ (r.op = .take ∧ code = 1 ∧ c.val ≠ 128) →
    ∃ t, exec (.queueResponse c) s = .next t ∧
      DoneWith c (woken c (s.core c)) ((s.core c).pc + 4)
        (fun m => if m = r.rs then some (word code)
          else if code = 0 ∧ r.op ≠ .push ∧ m = r.rd then some (v.setWidth 32)
          else if code = 0 ∧ r.op ≠ .push ∧ r.op ≠ .stat ∧ r.wide = true ∧ m = r.rd + 1 then
            some (v.extractLsb' 32 32)
          else none)
        { s with lace := { s.lace with reqs := t.lace.reqs, arrived := s.lace.arrived.filter (· ≠ c.val) } } t ∧
      t.req c = LaceReq.init c ∧ ∀ k, k ≠ c.val → t.req k = s.req k) ∧
  (∀ (c : CoreId) (s : State) (src i : Nat) (v : DWord), Waits s c .queue → i < 8 →
    let r := s.req c
    r.route = [] → r.phase = .answer 0 v src → r.victim = some i → r.op = .steal → r.wide = false →
    r.rd < 16 → r.rs < 16 →
    ∃ t, exec (.queueResponse c) s = .next t ∧
      DoneWith c (woken c (s.core c)) ((s.core c).pc + 4)
        (fun m => if m = r.rs then some (word (16 * (1 + i))) else if m = r.rd then some (v.setWidth 32) else none)
        { s with
          lace := { s.lace with reqs := t.lace.reqs, arrived := s.lace.arrived.filter (· ≠ c.val) }
          tiles := t.tiles } t ∧
      t.tile c = { s.tile c with stealLast := i } ∧ ∀ k, k ≠ c.val → t.tile k = s.tile k) ∧
  (∀ (k : LaceCaller) (s : State) (w : Waiter), (s.req (callerKey k)).phase = .waiting →
    w ∈ s.lace.waiters → w.caller = callerKey k → w.ticks = some 0 →
    ∃ t, exec (.waiterTimeout k true) s = .next t ∧ Answered t (callerKey k) 3 0 ∧
      (∀ j, j ≠ callerKey k → t.req j = s.req j) ∧
      t.lace.waiters = s.lace.waiters.filter (fun u => u.caller ≠ callerKey k) ∧
      t = { s with lace := { s.lace with reqs := t.lace.reqs, waiters := t.lace.waiters } }) ∧
  (∀ (k : LaceCaller) (s : State), (s.req (callerKey k)).phase = .waiting →
    exec (.waiterTimeout k false) s = .next s)

/-- The ring (R168, R185, R186, R193): a packet whose CRC is right crosses its link, a request towards its home
node and an answer back over the links that the request came by; one whose CRC is wrong waits for a retry, which
is counted, and the last retry that fails marks the link failed and is recorded. Where the next link has failed a
request goes the other way round when rerouting is on and that way is whole, and otherwise is answered FAULT. -/
def Obligations.RingPackets : Prop :=
  (∀ (k : LaceCaller) (s : State) (l : Nat) (p : List Nat),
    let key := callerKey k
    let r := s.req key
    r.route = l :: p → l < 4 → s.lace.linkFail.getLsbD l = false → s.laceForced l = false →
    (r.failedCrc = false → r.phase = .request → p ≠ [] →
      ∃ t, exec (.ringPacket k true) s = .next t ∧ OnlyReq key s t ∧
        t.req key = { r with route := p, back := l :: r.back, retries := 0, forced := false }) ∧
    (r.failedCrc = false → r.phase = .request → p = [] →
      ∃ t, exec (.ringPacket k true) s = .next t ∧
        t.req key = { r with route := [], back := l :: r.back, retries := 0, forced := false, aged := 0 } ∧
        t.lace.arrived = s.lace.arrived.filter (· ≠ key) ++ [key] ∧ (∀ j, j ≠ key → t.req j = s.req j) ∧
        t.cores = s.cores ∧ t.mem = s.mem ∧ t.lace.desc = s.lace.desc) ∧
    (∀ code v src, r.failedCrc = false → r.phase = .answer code v src →
      ∃ t, exec (.ringPacket k true) s = .next t ∧ OnlyReq key s t ∧
        t.req key = { r with route := p, retries := 0, forced := false }) ∧
    (r.failedCrc = false → ∃ t, exec (.ringPacket k false) s = .next t ∧ OnlyReq key s t ∧
      t.req key = { r with failedCrc := true, forced := false }) ∧
    (let counted := min 0xFFFF (s.lace.base s.time 8 s.lace.retryCnt + 1)
     (r.failedCrc = true → r.phase = .request → p ≠ [] →
        ∃ t, exec (.packetRetry k true) s = .next t ∧
          t.req key = { r with route := p, back := l :: r.back, retries := 0, failedCrc := false, forced := false } ∧
          t.lace.retryCnt = counted ∧ t.lace.linkFail = s.lace.linkFail) ∧
      (r.failedCrc = true → r.retries + 1 < s.retryLimit →
        ∃ t, exec (.packetRetry k false) s = .next t ∧ t.req key = { r with retries := r.retries + 1 } ∧
          t.lace.retryCnt = counted ∧ t.lace.linkFail = s.lace.linkFail) ∧
      (r.failedCrc = true → s.retryLimit ≤ r.retries + 1 →
        ∃ t, exec (.packetRetry k false) s = .next t ∧
          t.lace.linkFail = s.lace.linkFail ||| BitVec.ofNat 4 (2 ^ l) ∧ t.lace.retryCnt = counted ∧
          (r.phase = .request → t.lace.errLink = true ∧
            t.flt.inbox = s.flt.inbox ++ [{ Report.of 0x08 with
              time := word s.time, dev := true, index := l, detail := word (r.retries + 1)
              injected := r.forced }])))) ∧
  (∀ (k : LaceCaller) (ok : Bool) (s : State) (a : Nat) (l : Nat) (p : List Nat),
    let key := callerKey k
    let r := s.req key
    let b := r.queue / 4096
    let whole (w : List Nat) : Prop := ∀ i ∈ w, s.lace.linkFail.getLsbD i = false
    r.phase = .request → r.failedCrc = false → r.route = l :: p → s.lace.linkFail.getLsbD l = true →
    a < 4 → b < 4 → a ≠ b → l :: p = path a b →
    (s.lace.reroute = true → whole (longWay a b) → ∃ t, exec (.ringPacket k ok) s = .next t ∧ OnlyReq key s t ∧
      t.req key = { r with route := longWay a b, retries := 0, forced := false }) ∧
    (s.lace.reroute = false ∨ ¬ whole (longWay a b) → ∃ t, exec (.ringPacket k ok) s = .next t ∧
      Answered t key 7 0 ∧ (t.req key).route = [] ∧ ∀ j, j ≠ key → t.req j = s.req j))

/-- Eyelet ports (R181–R183): a port that is ready sends the request that its lanes carry, and an answer of OK
is offered on its inward lanes. -/
def Obligations.EyeletPorts : Prop :=
  ∀ (t' : TileId) (e : Fin 16) (s : State),
    let key := 256 + 16 * t'.val + e.val
    let b := s.eyelet t' e
    (s.portReady t' e = true → s.lace.linkFail = 0 →
      let sent := fun (t : State) (op : LaceOp) =>
        (t.req key).op = op ∧ (t.req key).queue = (b.setWidth 14).toNat ∧ (t.req key).eyelet = true ∧
        (t.req key).wide = (eyWidth b == 3) ∧ (t.req key).phase = .request ∧
        (t.req key).route = path (t'.val / 32) ((b.setWidth 14).toNat / 4096) ∧
        (∀ j, j ≠ key → t.req j = s.req j) ∧ t.cores = s.cores ∧ t.mem = s.mem
      (b.getLsbD 14 = false → ∃ t, exec (.eyeletPush t' e) s = .next t ∧ sent t .push ∧
        (t.req key).data = s.portData t' e) ∧
      (b.getLsbD 14 = true → s.portData t' e = 0 →
        ∃ t, exec (.eyeletPop t' e) s = .next t ∧ sent t .wait) ∧
      (b.getLsbD 14 = true → s.portData t' e = 1 →
        ∃ t, exec (.eyeletTry t' e) s = .next t ∧ sent t .try)) ∧
    (s.portReady t' e = false → exec (.eyeletPush t' e) s = .next s ∧ exec (.eyeletPop t' e) s = .next s ∧
      exec (.eyeletTry t' e) s = .next s) ∧
    (∀ v src, (s.req key).phase = .answer 0 v src → (s.req key).eyelet = true → (s.req key).route = [] →
      s.moves t' = true → (∀ r, r < eyAnswer b → s.inwardFree t' (eyLane e r).1 (eyLane e r).2 = true) →
      ∃ t, exec (.eyeletAnswer t' e) s = .next t ∧ t.req key = LaceReq.init key ∧
        t = { s with wires := t.wires, lace := { s.lace with
          reqs := t.lace.reqs, arrived := s.lace.arrived.filter (· ≠ key) } } ∧
        ∀ r, r < eyAnswer b → Offers t t' (eyLane e r).1 (eyLane e r).2
          (if b.getLsbD 14 then decide (r < eyBits b) && v.getLsbD r else false))

/-- Descriptors, adoption with the adopter's event bit, and Lace's own registers (R8, R21, R170, R172, R188, R192,
R193, R195): a store changes the bytes that its width names, and a clear that meets a count of the same HK cycle
is discarded, whichever came first. -/
def Obligations.LaceUpkeep : Prop :=
  (∀ (c : CoreId) (n i : Nat) (d : Word) (s : State), n < 16384 → i < 4 → i ≠ 2 →
    (c.val = 128 ∨ s.qOwner n = c.val) →
    exec (.descriptorStore c (word (0x02000000 + 16 * n + 4 * i)) .word d) s = .next (s.setDesc (4 * n + i) d)) ∧
  (∀ (c : CoreId) (n i : Nat) (d : Word) (s : State), n < 16384 → i < 4 →
    c.val ≠ 128 → s.qOwner n ≠ c.val →
    exec (.descriptorStore c (word (0x02000000 + 16 * n + 4 * i)) .word d) s = .next
      { s with lace := { s.lace with descRej := true, errQueue := n, errCaller := c.val } }) ∧
  (∀ (c : CoreId) (off : Nat) (wd : MemWidth) (d : Word) (s : State), off < 0x40000 → off % widthBytes wd = 0 →
    off / 4 % 4 ≠ 2 → (c.val = 128 ∨ s.qOwner (off / 16) = c.val) →
    ∃ v, exec (.descriptorStore c (word (0x02000000 + off)) wd d) s = .next (s.setDesc (off / 4) v) ∧
      ∀ i, i < 4 → v.extractLsb' (8 * i) 8 = if off % 4 ≤ i ∧ i < off % 4 + widthBytes wd
        then d.extractLsb' (8 * (i - off % 4)) 8 else (s.desc (off / 4)).extractLsb' (8 * i) 8) ∧
  (∀ (c : CoreId) (n : Nat) (d : Word) (s : State), n < 16384 → (c.val = 128 ∨ s.qOwner n = c.val) →
    ∃ t, exec (.descriptorStore c (word (0x02000000 + 16 * n + 8)) .word d) s = .next t ∧
      t.qWord n 2 = d ∧ t.qFull n = false ∧ t.qWord n 1 = s.qWord n 1 &&& ~~~0x1000#32) ∧
  (∀ (s : State) (a h : Nat) (rest : List Adoption),
    s.lace.adoptions = { engine := a, adopter := some h } :: rest → a < 128 → h < 129 →
    ∃ t, exec .adoptionComplete s = .next t ∧
      (∀ q, q < 16384 → s.qOwner q = a → t.qOwner q = h) ∧
      (∀ q, q < 16384 → s.qOwner q ≠ a → t.qWord q 1 = s.qWord q 1) ∧
      (∀ q i, i ≠ 1 → i < 4 → t.qWord q i = s.qWord q i) ∧
      t.lace.adoptions.length = rest.length ∧ t.mem = s.mem ∧
      (h < 128 → (s.core h).state ≠ .off → (s.core h).state ≠ .fenced →
        (t.tile h).evt = (s.tile h).evt ||| BitVec.ofNat 16 (2 ^ s.lace.adoptEv.toNat)) ∧
      (∀ e, e ≠ h → (t.tile e).evt = (s.tile e).evt) ∧
      t.flt.inbox = s.flt.inbox ++ [{ Report.of 0x0E with time := word s.time, tile := a, detail := word h }]) ∧
  (∀ s : State,
    (s.lace.meeting s.time 8 = false → ∃ t, exec .laceRetryCntClr s = .next t ∧
      t = { s with lace := { s.lace with retryCnt := 0, meets := t.lace.meets } } ∧
      t.lace.base s.time 8 t.lace.retryCnt = s.lace.retryCnt) ∧
    (s.lace.meeting s.time 8 = true → exec .laceRetryCntClr s = .next s)) ∧
  (∀ (m : Fin 4) (s : State),
    (s.lace.meeting s.time m = false → ∃ t, exec (.laceNopsCntClr m) s = .next t ∧
      t = { s with lace := { s.lace with nops := t.lace.nops, meets := t.lace.meets } } ∧
      (∀ j, SMap.read (fun _ => 0) t.lace.nops j = if j = m.val then 0 else SMap.read (fun _ => 0) s.lace.nops j) ∧
      t.lace.base s.time m 0 = SMap.read (fun _ => 0) s.lace.nops m) ∧
    (s.lace.meeting s.time m = true → exec (.laceNopsCntClr m) s = .next s)) ∧
  (∀ (m : Fin 4) (s : State), ∃ t, exec (.laceMaxClr m) s = .next t ∧
    t = { s with lace := { s.lace with nwaitMax := t.lace.nwaitMax } } ∧
    ∀ j, SMap.read (fun _ => 0) t.lace.nwaitMax j =
      if j = m.val then (s.lace.waiters.filter (fun w => w.queue / 4096 = m.val)).length
      else SMap.read (fun _ => 0) s.lace.nwaitMax j) ∧
  (∀ (v : Word) (s : State), exec (.laceTickWrite v) s = .next { s with lace := { s.lace with
    nextDiv := some (v.setWidth 16), minTicks := v.extractLsb' 16 4 } })

/-- Port F (R101–R103, R105, R108–R110): a complete request is latched; a window performs it alone, or together
with a load, a store or an atomic operation of port P to the same word, of which a load sees the value at the
start and the others come second; among different words port P wins; and the response is offered on lanes 0 to
33. -/
def Obligations.PortF : Prop :=
  (∀ (t' : TileId) (s : State), (s.tile t').fEn = true → s.moves t' = true → (s.tile t').fOffered = false →
    s.fOut t' < 4 → (∀ r, r < 54 → (s.outward t' (fLane r).1 (fLane r).2).isSome = true) →
    ∃ t, exec (.portFRequest t') s = .next t ∧ t.mem = s.mem ∧ t.cores = s.cores ∧ t.fOut t' = s.fOut t' + 1 ∧
      (t.tile t').fReqs = (s.tile t').fReqs ++ [{
        op := s.fField t' 47 3, waddr := s.fField t' 32 15
        ben := BitVec.ofNat 4 (s.fField t' 50 4), wdata := word (s.fField t' 0 32) }]) ∧
  (∀ (t' : TileId) (sub : Fin 8) (s : State) (q : FReq) (rest : List FReq),
    (s.tile t').fReqs = q :: rest → q.waddr < 0x8000 → q.waddr % 8 = sub.val → s.bankServes t' = true →
    (s.tile t').portP = [] →
    let wa := 0x8000 * t'.val + q.waddr
    s.eccAt wa = none →
    let old := s.wordAt wa
    let run := fun (t : State) (rdata new : Word) (err lost : Bool) =>
      t.wordAt wa = new ∧ (∀ a, a / 4 ≠ wa → t.byte a = s.byte a) ∧
      (t.tile t').fReqs = rest ∧
      (t.tile t').fResps = (s.tile t').fResps ++ [{ rdata := rdata, err := err, superseded := lost }] ∧
      (t.tile t').collCnt = if lost then min 0xFFFF ((s.tile t').collCnt + 1) else (s.tile t').collCnt
    let alone := fun (t : State) =>
      (q.op = 0 → run t old old false false) ∧
      (q.op = 1 → q.ben ≠ 0 → run t 0 (mergeBytes old q.wdata q.ben) false false) ∧
      (q.op = 1 → q.ben = 0 → run t 0 old true false) ∧
      (q.op = 2 → run t old (old + q.wdata) false false) ∧
      (q.op = 3 → run t old q.wdata false false) ∧
      (4 ≤ q.op → run t 0 old true false)
    (∃ t, exec (.bankWindow t' sub [] []) s = .next t ∧ t.cores = s.cores ∧ alone t) ∧
    ((s.tile t').portRest.getLsbD sub = false →
      (∀ (c : CoreId) (p : Store) (r : List Store), (s.core c).stores = p :: r → target c p.addr = .mem wa →
        alignCheck p.addr p.width = none → q.op = 1 → q.ben ≠ 0 →
        let f := mergeBytes old q.wdata q.ben
        let new := mergeBytes f (laneData p.addr p.data) (lanesOf p.addr p.width)
        ∀ own bus, own ++ bus = [.store c] → ∃ t, exec (.bankWindow t' sub own bus) s = .next t ∧
          run t 0 new false (mergeBytes new q.wdata q.ben != new) ∧ (t.core c).stores = r ∧
          (∀ k, k ≠ c.val → t.core k = s.core k)) ∧
      (∀ (c : CoreId) (l : Load), (s.core c).load = some l → l.reply = none → target c l.addr = .mem wa →
        alignCheck l.addr l.width = none → (∀ x ∈ (s.core c).stores, wordKey c x.addr ≠ wordKey c l.addr) →
        ∀ own bus, own ++ bus = [.load c] → ∃ t, exec (.bankWindow t' sub own bus) s = .next t ∧ alone t ∧
          t.core c = { s.core c with load := some { l with reply := some (.data old) } } ∧
          (∀ k, k ≠ c.val → t.core k = s.core k)) ∧
      (∀ (c : CoreId) (f : Option Word) (w : Word) (op : Word → Word → Word), Issues c f s w s →
        (opc w = 0x18 ∧ op = (fun x b => x + b)) ∨ (opc w = 0x19 ∧ op = (fun _ b => b)) →
        s.released c = true → s.accessCheck c (s.reg c (raF w)) .word .atomic = none →
        (s.reg c (raF w)).toNat / 4 = wa → target c (s.core c).pc ≠ .mem wa →
        ∀ own bus, own ++ bus = [.atomic c f] → ∃ t, exec (.bankWindow t' sub own bus) s = .next t ∧
          (∀ rdata f en, (q.op = 0 ∧ rdata = old ∧ f = old ∧ en = 0) ∨
              (q.op = 1 ∧ q.ben ≠ 0 ∧ rdata = 0 ∧ f = mergeBytes old q.wdata q.ben ∧ en = q.ben) ∨
              (q.op = 2 ∧ rdata = old ∧ f = old + q.wdata ∧ en = 15) ∨
              (q.op = 3 ∧ rdata = old ∧ f = q.wdata ∧ en = 15) →
            let new := op f (s.reg c (rbF w))
            run t rdata new false (mergeBytes new f en != new) ∧
            Done c (s.core c) ((s.core c).pc + 4) (rdF w) f
              { s with mem := t.mem, memEpoch := t.memEpoch, tiles := t.tiles, pwr := t.pwr } t)) ∧
      (∀ (c : CoreId) (p : Store) (r : List Store) (wb : Nat), (s.core c).stores = p :: r →
        target c p.addr = .mem wb → alignCheck p.addr p.width = none → wb / 0x8000 = t'.val → wb % 8 = sub.val →
        wb ≠ wa → s.eccAt wb = none →
        ∀ own bus, own ++ bus = [.store c] → ∃ t, exec (.bankWindow t' sub own bus) s = .next t ∧ (t.core c).stores = r ∧
          (t.tile t').fReqs = q :: rest ∧ (t.tile t').fResps = (s.tile t').fResps ∧ t.wordAt wa = old ∧
          t.wordAt wb = mergeBytes (s.wordAt wb) (laneData p.addr p.data) (lanesOf p.addr p.width)))) ∧
  (∀ (t' : TileId) (s : State) (r : FResp) (rest : List FResp), (s.tile t').fResps = r :: rest →
    (s.tile t').fOffered = false → s.moves t' = true →
    (∀ l, l < 34 → s.inwardFree t' (fLane l).1 (fLane l).2 = true) →
    ∃ t, exec (.portFResponse t') s = .next t ∧ t = { s with tiles := t.tiles, wires := t.wires } ∧
      t.tile t' = { s.tile t' with fOffered := true } ∧
      (∀ l, l < 32 → Offers t t' (fLane l).1 (fLane l).2 (r.rdata.getLsbD l)) ∧
      Offers t t' 14 0 r.err ∧ Offers t t' 14 1 r.superseded)

/-- The upkeep of a bank (R104, R114, R115, R117, R118, R120, R121, R124): the patrol takes the words in ascending
order, in cycles of a sub-bank for which nothing else waits, and corrects what it finds; from a fenced bank it
reads nothing. A clearing ends, and the counters are cleared. -/
def Obligations.BankUpkeep : Prop :=
  (∀ (t' : TileId) (s : State), s.patrols t' = true → (s.tile t').patrol.active = false →
    exec (.patrolPassStart t') s = .next (s.setTile t' { s.tile t' with
      patrol := { active := true, next := 0, per := (s.tile t').scrubPer.toNat } })) ∧
  (∀ (t' : TileId) (s : State) (n : Nat), s.patrols t' = true → (s.tile t').patrol.active = true →
    (s.tile t').patrol.next = n → n < 0x8000 →
    let wa := 0x8000 * t'.val + n
    let moved := fun (x : Tile) => { x with patrol := { x.patrol with active := decide (n + 1 < 0x8000), next := n + 1 } }
    ((s.tile t').bankFenced = true → exec (.patrolRead t' none) s = .next (s.setTile t' (moved (s.tile t')))) ∧
    ((s.tile t').bankFenced = false → PortIdle s wa →
    (s.eccAt wa = none → exec (.patrolRead t' none) s = .next
      (({ s with pwr := { s.pwr with accesses := s.pwr.accesses + 1 } } : State).setTile t' (moved (s.tile t')))) ∧
    (∀ e, s.eccAt wa = some (.single e) → ∃ t, exec (.patrolRead t' none) s = .next t ∧ t.eccAt wa = none ∧
      t.mem.cells = s.mem.cells ∧
      t.tile t' = moved { s.tile t' with bankCe := min 0xFF ((s.tile t').bankCe + 1) }) ∧
    (∀ i p, s.eccAt wa = some (.double i p) → ∃ t, exec (.patrolRead t' none) s = .next t ∧
      t.eccAt wa = some .poison ∧ t.mem.cells = s.mem.cells ∧ (t.tile t').ue = true ∧
      (t.tile t').bankUe1s = (s.tile t').bankUe1s + 1 ∧ (t.tile t').patrol.next = n + 1 ∧
      ∃ r, t.flt.inbox = s.flt.inbox ++ [r] ∧ r.code = 4 ∧ r.tile = t'.val ∧ r.detail = word (4 * wa) ∧
        ((t.tile t').bankFenced = true ↔ 3 ≤ (s.tile t').bankUe1s)))) ∧
  (∀ (t' : TileId) (s : State),
    exec (.memoryClearComplete t') s = .next (s.setTile t' { s.tile t' with clearing := false }) ∧
    exec (.bankCntClr t') s = .next (s.setTile t' { s.tile t' with collCnt := 0 }) ∧
    exec (.eccCntClr t') s = .next (s.setTile t' { s.tile t' with bankCe := 0, localCe := 0 }) ∧
    exec (.bankUe1sExpiry t') s = .next (s.setTile t' { s.tile t' with bankUe1s := (s.tile t').bankUe1s - 1 }))

/-- The handshake of an element of the fabric (R10, R11, R29, R30, R32, R35, R36, R40–R45, R54, R56, R59, R62–R66,
R68, R75, R81, R307): a LUT that completes, a chained cell and its carry, a stage that captures and lets go, the read
and write ports of a memory group with their order, a lane with its fork, a pip, a spine and what its checker
sees, a pace lane, a welt open and in each seal mode, an outward lane, the code checkers; a word that becomes
complete on a tap of TILE_CTRL.tap_ev, which no seam or pin has, sets event bit 14 (R147); and the end of a token
window, once at each TIME that is a multiple of 100 (R49). -/
def Obligations.FabricHandshakes : Prop :=
  (∀ (t' : TileId) (cl : Fin 1024) (k : Fin 16) (s : State),
    let w := s.cellWord t' cl k
    let key := cellNode t' cl k
    let l := s.cellInputs t' cl k (s.node key).ack
    s.moves t' = true → complete l = true →
    (cwMode w = 0 → cwCarry w = false → (s.node key).out = .spacer →
      ∃ t, exec (.laneHandshake (.cell t' cl k)) s = .next t ∧
        (t.node key).out = .tok ((cwLut w).testBit
          (8 * b2n (inBit l 3) + 4 * b2n (inBit l 2) + 2 * b2n (inBit l 1) + b2n (inBit l 0))) ∧
        (∀ j, j ≠ key → t.node j = s.node j) ∧
        ((s.tile t').tapEv = 0 → t = { s with wires := t.wires })) ∧
    (cwMode w = 1 ∨ cwMode w = 2 ∨ cwMode w = 3 → cwCarry w = false → s.live t' = true →
      s.node key = { out := .spacer, ack := false, full := false } →
      ∃ t, exec (.laneHandshake (.cell t' cl k)) s = .next t ∧
        t.node key = { out := .tok ((cwLut w).testBit
          (8 * b2n (inBit l 3) + 4 * b2n (inBit l 2) + 2 * b2n (inBit l 1) + b2n (inBit l 0)))
                       ack := true, full := true } ∧
        (∀ j, j ≠ key → t.node j = s.node j) ∧
        ((s.tile t').tapEv = 0 → t = { s with wires := t.wires })) ∧
    (cwMode w = 1 ∨ cwMode w = 2 ∨ cwMode w = 3 → ∀ v, s.node key = { out := .tok v, ack := true, full := true } →
      s.acked (s.cellReaders t' cl k) = true →
      ∃ t, exec (.laneHandshake (.cell t' cl k)) s = .next t ∧
        t.node key = { out := .spacer, ack := true, full := true } ∧ (∀ j, j ≠ key → t.node j = s.node j)) ∧
    (∃ t, exec (.laneHandshake (.cell t' cl k)) s = .next t ∧ t = { s with wires := t.wires, tiles := t.tiles } ∧
      (∀ e, e ≠ t'.val → t.tile e = s.tile e) ∧
      t.tile t' = { s.tile t' with evt := (t.tile t').evt, tokCount := (t.tile t').tokCount } ∧
      ((∃ j, j < 16 ∧ (s.tile t').tapEv.getLsbD j = true ∧ s.tapTaken t' j = false ∧ s.tapWord t' j = none ∧
          t.tapWord t' j ≠ none) →
        (s.core t').state ≠ .off → (s.core t').state ≠ .fenced →
        (t.tile t').evt = (s.tile t').evt ||| 0x4000#16) ∧
      ((∀ j, j < 16 → (s.tile t').tapEv.getLsbD j = true → s.tapTaken t' j = false → s.tapWord t' j = none →
          t.tapWord t' j = none) →
        (t.tile t').evt = (s.tile t').evt))) ∧
  (∀ (t' : TileId) (cl : Fin 1024) (k : Fin 16) (s : State),
    let w := s.cellWord t' cl k
    let sum := s.cellInputs t' cl k (s.node (cellNode t' cl k)).ack
    let car := s.cellInputs t' cl k (s.node (carryNode t' cl k)).ack
    let abc (x : List (Nat × Rail)) : Nat := b2n (inBit x 0) + 2 * b2n (inBit x 1) + 4 * b2n (inBit x 2)
    s.moves t' = true → cwCarry w = true →
    (cwMode w = 0 → complete sum = true → (s.node (cellNode t' cl k)).out = .spacer →
      ∃ t, exec (.laneHandshake (.cell t' cl k)) s = .next t ∧
        (t.node (cellNode t' cl k)).out = .tok ((cwLut w).testBit (8 + abc sum) != inBit sum 3)) ∧
    (s.carryActive t' cl k = true → complete car = true → (s.node (carryNode t' cl k)).out = .spacer →
      ∃ t, exec (.laneHandshake (.carry t' cl k)) s = .next t ∧ OnlyNode (carryNode t' cl k) s t ∧
        AckJoined s t (carryNode t' cl k) (s.carryReaders t' cl k) ∧
        (t.node (carryNode t' cl k)).out =
          .tok (if (cwLut w).testBit (abc car) then inBit car 3 else inBit car 0)) ∧
    (s.carryActive t' cl k = false → exec (.laneHandshake (.carry t' cl k)) s = .next s)) ∧
  (∀ (t' : TileId) (cl : Fin 1024) (s : State), s.moves t' = true →
    let o := s.memOrder t' cl
    let r := s.turn (1024 * t'.val + cl.val)
    (∀ k : Fin 16, cwMode (s.cellWord t' cl k) = 4 → cwRole (s.cellWord t' cl k) = 1 →
      (s.node (cellNode t' cl k)).out = .spacer →
      let l := s.cellInputs t' cl k (s.node (cellNode t' cl k)).ack
      ∃ t, exec (.laneHandshake (.cell t' cl k)) s = .next t ∧
        (complete l = true → o = 0 ∨ (r.reads.getLsbD k = false ∧ (o ≠ 2 ∨ r.wrote = true)) →
          (t.node (cellNode t' cl k)).out = .tok (cellValue (s.cellWord t' cl k) l)) ∧
        (o ≠ 0 → r.reads.getLsbD k = true ∨ (o = 2 ∧ r.wrote = false) →
          (t.node (cellNode t' cl k)).out = .spacer)) ∧
    (let port := writeNode t' cl
     let out := cellNode t' cl 9
     let l := s.writeInputs t' cl (s.node port).ack
     cwMode (s.cellWord t' cl 8) = 4 → s.live t' = true → (s.node port).ack = false → s.node out = emptyNode →
     complete l = true →
     (o = 0 ∨ r.reads.toNat = s.readMask t' cl ∨ (o = 2 ∧ r.wrote = false) →
       ∃ t, exec (.laneHandshake (.memWrite t' cl)) s = .next t ∧ (t.node port).ack = true ∧
         (t.node out).out = .tok (inBit l 4) ∧ (t.node out).full = true ∧
         (∀ k a, k < 8 → a < 16 → cwMode (s.cellWord t' cl k) = 4 →
           (cwLut (t.cellWord t' cl k)).testBit a =
             if inBit l 4 = true ∧ a = nibble l 0 then (nibble l 8 + 16 * nibble l 12).testBit k
             else (cwLut (s.cellWord t' cl k)).testBit a) ∧
         (∀ j, j ≠ frameAddr t' 0 cl → t.frame j = s.frame j) ∧
         (o ≠ 0 → t.turn (1024 * t'.val + cl.val) = { reads := 0, wrote := true })) ∧
     (o ≠ 0 → r.reads.toNat ≠ s.readMask t' cl → o ≠ 2 ∨ r.wrote = true →
       exec (.laneHandshake (.memWrite t' cl)) s = .next s))) ∧
  (∀ (t' : TileId) (cl : Fin 1024) (l : Fin 32) (s : State), s.moves t' = true →
    (l.val < 24 ∨ s.pipOn t' cl l = false) →
    (∀ k v, s.laneSrc t' cl l = .cell k → (s.node (cellNode t' cl k)).out = .tok v →
      (s.node (laneNode t' cl l)).out = .spacer →
      ∃ t, exec (.laneHandshake (.lane t' cl l)) s = .next t ∧ OnlyNode (laneNode t' cl l) s t ∧
        (t.node (laneNode t' cl l)).out = .tok v ∧
        AckJoined s t (laneNode t' cl l) (s.laneReaders t' cl l)) ∧
    (∀ i v, s.laneSrc t' cl l = .lane i → s.laneRail t' cl i = .tok v →
      (s.node (laneNode t' cl l)).out = .spacer →
      ∃ t, exec (.laneHandshake (.lane t' cl l)) s = .next t ∧ OnlyNode (laneNode t' cl l) s t ∧
        (t.node (laneNode t' cl l)).out = .tok v)) ∧
  (∀ (t' : TileId) (cl : Fin 1024) (l : Fin 32) (s : State),
    (s.pipOn t' cl l = false → exec (.laneHandshake (.pip t' cl l)) s = .next s) ∧
    (∀ v, s.pipOn t' cl l = true → 24 ≤ l.val → s.moves t' = true → s.muxRail t' cl l = .tok v →
      s.node (pipNode t' cl l) = emptyNode →
      ∃ t, exec (.laneHandshake (.pip t' cl l)) s = .next t ∧ OnlyNode (pipNode t' cl l) s t ∧
        t.node (pipNode t' cl l) = heldTok v) ∧
    (∀ c1 v, s.pipOn t' cl l = true → l.val < 24 → laneFar t' cl l = some (t'.val, c1) → s.moves t' = true →
      (s.node (laneNode t' cl l)).out = .tok v → s.node (pipNode t' c1 l) = emptyNode →
      ∃ t, exec (.laneHandshake (.pip t' cl l)) s = .next t ∧ OnlyNode (pipNode t' c1 l) s t ∧
        t.node (pipNode t' c1 l) = heldTok v)) ∧
  (∀ (t' : TileId) (sp : Fin 128) (upset : Option (Fin 32)) (s : State), s.moves t' = true →
    let key := spineNode t' sp
    let taps := s.spineTaps t' sp (upset.map (·.val))
    (∀ v, (s.node key).out = .spacer → (∃ p ∈ taps, tapRail s t' sp p = .tok v) →
      (∀ p ∈ taps, tapRail s t' sp p = .spacer ∨ tapRail s t' sp p = .tok v) →
      ∃ t, exec (.laneHandshake (.spine t' sp upset)) s = .next t ∧ OnlyNode key s t ∧
        (t.node key).out = .tok v ∧ AckJoined s t key (s.spineReaders t' sp)) ∧
    ((∃ p ∈ taps, tapRail s t' sp p = .tok true) → (∃ p ∈ taps, tapRail s t' sp p = .tok false) →
      ((s.node key).out = .illegal → exec (.laneHandshake (.spine t' sp upset)) s = .next s) ∧
      ((s.node key).out ≠ .illegal → ∃ t, exec (.laneHandshake (.spine t' sp upset)) s = .next t ∧
        (t.node key).out = .illegal ∧ ∃ r, t.flt.inbox = s.flt.inbox ++ [r] ∧ r.code = 2 ∧ r.tile = t'.val ∧
          r.index = sp.val ∧ r.detail = 2)) ∧
    (∀ v, (s.node key).out = .tok (!v) → (∃ p ∈ taps, tapRail s t' sp p = .tok v) →
      (∀ p ∈ taps, tapRail s t' sp p = .spacer ∨ tapRail s t' sp p = .tok v) →
      ∃ t, exec (.laneHandshake (.spine t' sp upset)) s = .next t ∧ (t.node key).out = .tok v ∧
        ∃ r, t.flt.inbox = s.flt.inbox ++ [r] ∧ r.code = 2 ∧ r.tile = t'.val ∧ r.index = sp.val ∧ r.detail = 0)) ∧
  (∀ (n : PacerId) (s : State),
    (s.moves (s.paceTile n) = false ∨ s.takesPace (s.paceTile n) = false →
      exec (.laneHandshake (.pace n)) s = .next s) ∧
    (s.moves (s.paceTile n) = true → s.takesPace (s.paceTile n) = true → (s.node (paceNode n)).full = true →
      (∀ v, (s.node (paceNode n)).out = .tok v → (∀ k ∈ s.paceReaders n, (s.node k).ack = true) →
        ∃ t, exec (.laneHandshake (.pace n)) s = .next t ∧ (t.node (paceNode n)).out = .spacer ∧
          t.pacer n = { s.pacer n with issued := (s.pacer n).issued - 1, unseen := (s.pacer n).unseen + 1 } ∧
          (∀ j, j ≠ n.val → t.pacer j = s.pacer j) ∧ ∀ j, j ≠ paceNode n → t.node j = s.node j) ∧
      ((s.node (paceNode n)).out ≠ .spacer → (∃ k ∈ s.paceReaders n, (s.node k).ack = false) →
        exec (.laneHandshake (.pace n)) s = .next s))) ∧
  (∀ (t' : TileId) (p : Fin 32) (l : Fin 16) (s : State), (s.node (outNode t' p l)).ack = true →
    (s.outwardRail t' p l = .spacer → exec (.laneHandshake (.outward t' p l)) s = .next
      (s.setNode (outNode t' p l) { s.node (outNode t' p l) with ack := false })) ∧
    (s.outwardRail t' p l ≠ .spacer → exec (.laneHandshake (.outward t' p l)) s = .next s)) ∧
  (∀ (t' : TileId) (cl : Fin 1024) (l : Fin 32) (t0 c0 : Nat) (v : Bool) (s : State),
    laneNear t' cl l = some (t0, c0) → t0 ≠ t'.val → s.node (weltNode t' cl l) = emptyNode →
    (s.node (laneNode t0 c0 l)).out = .tok v →
    (s.sealed t' t0 = false → ∃ t, exec (.laneHandshake (.welt t' cl l)) s = .next t ∧
      OnlyNode (weltNode t' cl l) s t ∧ t.node (weltNode t' cl l) = heldTok v) ∧
    (s.sealed t' t0 = true → s.sealMode t' cl l = 0 ∨ s.sealMode t' cl l = 1 →
      exec (.laneHandshake (.welt t' cl l)) s = .next s) ∧
    (s.sealed t' t0 = true → s.moves t' = true → s.sealMode t' cl l = 2 ∨ s.sealMode t' cl l = 3 →
      ∃ t, exec (.laneHandshake (.welt t' cl l)) s = .next t ∧ OnlyNode (weltNode t' cl l) s t ∧
        t.node (weltNode t' cl l) = { out := .tok (s.sealMode t' cl l == 3), ack := false, full := true })) ∧
  (∀ (t' : TileId) (cl : Fin 1024) (l : Fin 32) (t0 c0 : Nat) (v : Bool) (s : State),
    laneNear t' cl l = some (t0, c0) → t0 ≠ t'.val → s.sealed t' t0 = true → s.sealMode t' cl l = 4 →
    s.node (weltNode t' cl l) = { out := .spacer, ack := false, full := false } →
    (s.node (laneNode t0 c0 l)).out = .tok v →
    ∃ t, exec (.laneHandshake (.welt t' cl l)) s = .next t ∧
      t.node (weltNode t' cl l) = { out := .spacer, ack := true, full := false } ∧
      (t.tile t').drained = min 0xFFFF ((s.tile t').drained + 1)) ∧
  (∀ (t' : TileId) (cl : Fin 1024) (k : Fin 16) (illegal : Bool) (s : State), s.moves t' = true →
    unusedCell (s.cellWord t' cl k) = false →
    ∃ t r, exec (.laneHandshake (.cellChecker t' cl k false illegal)) s = .next t ∧
      t = { s with flt := { s.flt with inbox := s.flt.inbox ++ [r] } } ∧
      r.code = 1 ∧ r.tile = t'.val ∧ r.index = cl.val ∧ r.cell = k.val ∧ r.time = word s.time) ∧
  (∀ (t' : TileId) (sp : Fin 128) (illegal : Bool) (s : State), s.moves t' = true →
    ∃ t r, exec (.laneHandshake (.spineChecker t' sp illegal)) s = .next t ∧
      t = { s with flt := { s.flt with inbox := s.flt.inbox ++ [r] } } ∧
      r.code = 2 ∧ r.tile = t'.val ∧ r.index = sp.val) ∧
  (∀ (s : State),
    (s.time % 100 = 0 → s.wires.tokEnd ≠ s.time → ∃ t, exec .tokRateWindow s = .next t ∧
      t = { s with tiles := t.tiles, wires := { s.wires with tokEnd := s.time } } ∧
      ∀ k, k < 128 → t.tile k = { s.tile k with
        tokRate := if (s.tile k).power.off || (s.tile k).fenced then 0 else (s.tile k).tokCount / 256
        tokCount := 0 }) ∧
    (s.time % 100 ≠ 0 ∨ s.wires.tokEnd = s.time → exec .tokRateWindow s = .next s))

/-- A pacer's edges (R78, R81–R83, R86, R87, R91, R93): an edge that carries out of bit 31 issues a token or is a
deficit event, and takes a new depth; an edge with no tick repays a debt; a pending acc_clr clears the accumulator
and adds nothing; a written increment acts from its time on; a stopped or another clock has no edge; and a take
that has crossed is counted. With PERT_PACE a tick is late by a free number of edges up to its field (R384, log
entry 7). -/
def Obligations.PacerEdges : Prop :=
  ∀ (e : Fin 8) (n : PacerId) (s : State),
    let p := s.pacer n
    (exec (.paceTick (e, n, 0)) s = .next s ∧
      ∀ k s1, exec (.paceTick (e, n, 1)) s = .next s1 → exec (.paceTick (e, n, k + 1)) s = exec (.paceTick (e, n, k)) s1) ∧
    (s.ecRuns e = false ∨ (p.ec ≠ e.val ∧ p.nextEc = []) → exec (.paceTick (e, n, 1)) s = .next s) ∧
    (s.ecRuns e = true → p.ec = e.val → p.nextEc = [] → p.nextInc = [] → p.late = [] →
      let sum := p.acc + p.inc.toNat
      let q := { p with depth := p.nextDepth.getD p.depth, nextDepth := none, acc := sum % 2 ^ 32 }
      let others (t : State) : Prop := (∀ j, j ≠ n.val → t.pacer j = s.pacer j) ∧ t.cores = s.cores
      let sent (x : Pacer) : Pacer := { x with
        issued := x.issued + 1, offered := true, lead := if x.offered then x.lead + 1 else x.lead
        leadMax := max x.leadMax (if x.offered then x.lead + 1 else x.lead) }
      (p.accClr = true → p.debt = 0 → ∃ t, exec (.paceTick (e, n, 1)) s = .next t ∧ others t ∧
        t.pacer n = { p with acc := 0, accClr := false }) ∧
      (p.accClr = false → s.pacerRuns p = false → ∃ t, exec (.paceTick (e, n, 1)) s = .next t ∧ others t ∧
        t.pacer n = p) ∧
      (p.accClr = false → s.pacerRuns p = true → s.paceJitter n = false → 2 ^ 32 ≤ sum → p.debt ≤ 0xFFFF →
        ∃ t, exec (.paceTick (e, n, 1)) s = .next t ∧ others t ∧
          (q.free = true → t.pacer n = sent q) ∧
          (q.free = false → t.pacer n = { q with
            deficits := min 0xFFFF (q.deficits + 1), deficit := true, fresh := true
            debt := if q.bank then min 0xFFFF (q.debt + 1) else q.debt
            debtOvf := q.debtOvf || (q.bank && q.debt == 0xFFFF) })) ∧
      (p.accClr = false → s.pacerRuns p = true → s.paceJitter n = true → 2 ^ 32 ≤ sum → p.debt = 0 →
        ∃ t d, exec (.paceTick (e, n, 1)) s = .next t ∧ others t ∧ d ≤ fld s.pert.pace 8 4 ∧
          (d = 0 → q.free = true → t.pacer n = sent q) ∧
          (0 < d → t.pacer n = { p with acc := sum % 2 ^ 32, late := [d] })) ∧
      (p.accClr = false → s.pacerRuns p = true → sum < 2 ^ 32 →
        (p.free = true → 0 < p.debt → ∀ i ∈ [Instr.paceTick (e, n, 1), Instr.debtRepay (e, n)],
          ∃ t, exec i s = .next t ∧ others t ∧ t.pacer n = { sent p with acc := sum, debt := p.debt - 1 }) ∧
        (p.free = false ∨ p.debt = 0 →
          (∃ t, exec (.paceTick (e, n, 1)) s = .next t ∧ others t ∧ t.pacer n = { p with acc := sum }) ∧
          exec (.debtRepay (e, n)) s = .next s))) ∧
    (∀ v d, s.ecRuns e = true → p.ec = e.val → p.nextEc = [] → p.nextInc = [(v, d)] → p.late = [] →
      p.accClr = false → s.pacerRuns p = true → p.debt = 0 →
      (d ≤ s.time → p.acc + v.toNat < 2 ^ 32 → ∃ t, exec (.paceTick (e, n, 1)) s = .next t ∧
        t.pacer n = { p with inc := v, nextInc := [], acc := p.acc + v.toNat }) ∧
      (s.time < d → p.acc + p.inc.toNat < 2 ^ 32 → ∃ t, exec (.paceTick (e, n, 1)) s = .next t ∧
        t.pacer n = { p with acc := p.acc + p.inc.toNat })) ∧
    (0 < p.unseen → exec (.takeVisible n) s = .next (s.setPacer n { p with
      unseen := p.unseen - 1, count := (p.count + 1) % 2 ^ 64, lead := p.lead - 1, offered := decide (0 < p.lead) }))

/-- Writes to a pacer (R77, R87, R91, R93, R94): PACE_INC and ec wait two HK cycles, PACE_CTRL is refused whole when
another enabled pacer of the quadrant names the join or waits to move to it, a change of join waits for the places
to empty, and the clear fields clear. That the old join of a pacer which waits to move counts too, and that a
further write replaces a pending join, is the model's choice (log entry 84). -/
def Obligations.PacerWrites : Prop :=
  ∀ (n : PacerId) (v : Word) (s : State),
    let p := s.pacer n
    let a := v.extractLsb' 8 5
    let b := v.extractLsb' 13 10
    let taken : Prop := ∃ k : PacerId, k ≠ n ∧ k.val / 16 = n.val / 16 ∧ (s.pacer k).en = true ∧
      (((s.pacer k).joinTile = a ∧ (s.pacer k).joinCluster = b) ∨ (s.pacer k).joinPend = some (a, b))
    exec (.paceIncWrite n v) s = .next (s.setPacer n { p with nextInc := p.nextInc ++ [(v, s.time + 2)] }) ∧
    (v.getLsbD 0 = true → taken → exec (.paceCtrlWrite n v) s = .next (s.setPacer n { p with cfgRej := true })) ∧
    (v.getLsbD 0 = false ∨ ¬ taken →
      ∃ t, exec (.paceCtrlWrite n v) s = .next t ∧ (∀ j, j ≠ n.val → t.pacer j = s.pacer j) ∧
        (t.pacer n).en = v.getLsbD 0 ∧ (t.pacer n).bank = v.getLsbD 4 ∧
        (t.pacer n).deficitIe = v.getLsbD 5 ∧ (t.pacer n).govExcl = v.getLsbD 24 ∧
        (t.pacer n).joinTile = p.joinTile ∧ (t.pacer n).joinCluster = p.joinCluster ∧
        (t.pacer n).joinPend = (if a = p.joinTile ∧ b = p.joinCluster then none else some (a, b)) ∧
        (t.pacer n).ec = p.ec ∧
        (t.pacer n).nextEc = (if (v.extractLsb' 1 3).toNat = (p.nextEc.getLast?.map (·.1)).getD p.ec then p.nextEc
          else p.nextEc ++ [((v.extractLsb' 1 3).toNat, s.time + 2)]) ∧
        (t.pacer n).accClr = (p.accClr || v.getLsbD 6) ∧ (t.pacer n).acc = p.acc ∧
        (t.pacer n).debt = (if v.getLsbD 23 then 0 else p.debt) ∧
        (t.pacer n).count = (if v.getLsbD 7 then 0 else p.count) ∧
        (t.pacer n).deficits = (if v.getLsbD 7 then 0 else p.deficits)) ∧
    (∀ a b, p.joinPend = some (a, b) → p.offered = false → p.lead = 0 →
      ∃ t, exec (.joinChange n) s = .next t ∧
        t.pacer n = { p with joinTile := a, joinCluster := b, joinPend := none } ∧
        (∀ j, j ≠ n.val → t.pacer j = s.pacer j)) ∧
    (p.offered = true ∨ 0 < p.lead → exec (.joinChange n) s = .next s) ∧
    exec (.accClr n) s = .next (s.setPacer n { p with accClr := true }) ∧
    (∃ t, exec (.paceCntClr n) s = .next t ∧ t.pacer n = { p with count := 0, deficits := 0 } ∧
      (∀ j, j ≠ n.val → t.pacer j = s.pacer j) ∧
      ∀ c, SMap.read (fun _ => none) (t.core c).paceLatch n = none) ∧
    exec (.debtClr n) s = .next (s.setPacer n { p with debt := 0 }) ∧
    exec (.leadMaxClr n) s = .next (s.setPacer n { p with leadMax := p.lead }) ∧
    (∀ c : CoreId, ∃ t, exec (.paceCntlRead c n) s = .next t ∧ t = { s with cores := t.cores } ∧
      (∀ k, k ≠ c.val → t.core k = s.core k) ∧
      SMap.read (fun _ => none) (t.core c).paceLatch n = some (word (p.count / 2 ^ 32)) ∧
      ∀ l, (s.core c).load = some l → l.reply = none → target c l.addr = .reg (0x0803800C + 0x20 * n.val) →
        s.storeWaits c l.addr = false → (t.core c).load = some { l with reply := some (.data (word p.count)) })

/-- The clocks (R196–R201, R221, R223–R225): lock and its loss, the relock, which is refused when it breaks R196
whether or not the PLL is on, pll_en, and the writes of the dividers and of the phase loops. -/
def Obligations.Clocks : Prop :=
  ∀ (s : State),
    (s.clk.pllEn = true → s.clk.rootLock = false → ∃ t, exec .rootLock s = .next t ∧
      t.clk.rootLock = true ∧ t.clk.relocking = false ∧ t.clk.relockAct = false ∧ t.clk.now = s.clk.now ∧ t.clk.ecs = s.clk.ecs ∧
      t = { s with clk := t.clk }) ∧
    (∀ (q : Fin 4) (err : Byte), s.clk.rootLock = true → (s.phase q).en = true →
      exec (.phaseLock q err) s = .next (s.setPhase q { s.phase q with lock := true, err := err })) ∧
    (∀ x, s.clk.rootLock = true → ∃ t, exec (.lockLoss x) s = .next t ∧
      t.clk.rootLock = false ∧ t.clk.relocking = s.clk.pllEn ∧ t.clk.now = s.clk.now ∧
      t.clk.unlock = (s.clk.unlock || !x) ∧ t.clk.xinFail = (s.clk.xinFail || x) ∧
      (∀ n, n < 7 → t.ecRuns n = false) ∧ (∀ q, q < 4 → (t.phase q).lock = false) ∧
      t.flt.inbox = s.flt.inbox ++ [{ Report.of 0x0B with
        time := word s.time, dev := true, detail := if x then 2 else 1 }]) ∧
    (s.clk.pllEn = true → s.pllRefused s.clk.held = false → ∃ t, exec .relock s = .next t ∧
      t.clk.now = s.clk.held ∧ t.clk.rootLock = false ∧ t.clk.relocking = true ∧ t.clk.relockAct = true ∧
      (∀ n, n < 7 → t.ecRuns n = false)) ∧
    (s.clk.pllEn = false → s.pllRefused s.clk.held = false → exec .relock s = .next s) ∧
    (s.pllRefused s.clk.held = true →
      exec .relock s = .next { s with clk := { s.clk with cfgRej := true } }) ∧
    (s.clk.pllEn = true → ∃ t, exec (.pllEnWrite false) s = .next t ∧
      t.clk.pllEn = false ∧ t.clk.rootLock = false ∧ (∀ n, n < 7 → t.ecRuns n = false)) ∧
    (s.clk.pllEn = false → s.pllRefused s.clk.held = false → ∃ t, exec (.pllEnWrite true) s = .next t ∧
      t.clk.pllEn = true ∧ t.clk.now = s.clk.held ∧ t.clk.relocking = true) ∧
    (∀ (n : Fin 8) (v : Word),
      (v.getLsbD 12 = false ∨ s.clk.now.above ((v.extractLsb' 0 12).toNat + 1) 650 = false →
        exec (.clkEcWrite n v) s = .next (s.setEc n { div := v.extractLsb' 0 12, en := v.getLsbD 12 })) ∧
      (v.getLsbD 12 = true → s.clk.now.above ((v.extractLsb' 0 12).toNat + 1) 650 = true →
        exec (.clkEcWrite n v) s = .next { s with clk := { s.clk with cfgRej := true } })) ∧
    (∀ (q : Fin 4) (v : Word), exec (.clkPhaseWrite q v) s = .next (s.setPhase q { s.phase q with
      en := v.getLsbD 0, trim := v.extractLsb' 8 6, lock := (s.phase q).lock && v.getLsbD 0 }))

/-- Words through a seam (R203, R205, R207–R209, R214, R218): accepted from the taps, loaded to the pins,
captured from the pins, the places that become free, and the counts of an EVENT seam. An edge at which no
transfer takes place still ages what waits and moves the cadence on. Under LOCKSTEP the slot takes a word and
the pins show it s edges later; a slot without one is a miss. -/
def Obligations.SeamWords : Prop :=
  ∀ (i : SeamId) (s : State),
    let g := s.seam i
    let v := g.cfg
    let st := s.seamTile i
    let aged := g.fifo.map (fun e => ({ word := e.word, age := e.age + 1 } : SeamEntry))
    let past : Seam := { g with fifo := aged, freeing := g.freeing.map (· + 1), srcFresh := 0 }
    let edges := if g.s3 then 4 else 3
    let forced := b2n (s.seamForced i)
    let inRun := g.state = .run ∧ g.holdPend = false ∧ g.epochF = g.epochE
    let word := sgKind v = 1 ∨ sgKind v = 2
    let allowed := fun qual => sgQual v ≠ 1 ∨
      (if s.jtag.ir.ownsPads then (s.pin (sgQualPin v)).seen else qual) = true
    let mine := fun p => (∃ b, b < sgPins v ∧ p = g.edgeBase + b) ∨ (sgQual v ≠ 0 ∧ p = sgQualPin v)
    let frame := fun (t : State) => t = { s with seams := t.seams, wires := t.wires, pins := t.pins } ∧
      (∀ k, k ≠ i.val → t.seam k = s.seam k) ∧ ∀ p, ¬mine p → t.pin p = s.pin p
    let out := inRun ∧ sgIn v = false ∧ s.ecRuns (sgEc v) = true
    let shows := fun (w : DWord) (t : State) =>
      (sgQual v ≠ 2 ∨ ∀ b, b < sgPins v → sgQualPin v ≠ g.edgeBase + b) →
        (∀ b, b < sgPins v → pcMode (s.pin (g.edgeBase + b)).cfg = 4 → s.padFollows (g.edgeBase + b) = true →
          (t.pin (g.edgeBase + b)).drive = some (w.getLsbD b)) ∧
        (sgQual v = 2 → g.strobeOn = true → pcMode (s.pin (sgQualPin v)).cfg = 4 →
          s.padFollows (sgQualPin v) = true → (t.pin (sgQualPin v)).drive = some true)
    (inRun → sgIn v = false → s.moves st = true → ∀ w, s.seamWord i = some w →
      (word → g.fifo.length + g.freeing.length < sgPlaces v → g.inFlight = none →
        ∃ t, exec (.seamWordAccept i) s = .next t ∧ frame t ∧ t.pins = s.pins ∧
          t.seam i = { g with fifo := g.fifo ++ [{ word := w, age := 0 }] } ∧
          (sgBounded v = false → t.wires = s.wires)) ∧
      (word → sgPlaces v ≤ g.fifo.length + g.freeing.length → exec (.seamWordAccept i) s = .next s) ∧
      (sgKind v = 3 →
        ∃ t, exec (.seamWordAccept i) s = .next t ∧ frame t ∧ t.pins = s.pins ∧
          t.seam i = if g.srcCount = 63 then { g with overrun := true, flows := min 63 (g.flows + 1) }
            else { g with srcCount := g.srcCount + 1, srcFresh := g.srcFresh + 1 })) ∧
    (out → sgBounded v = true → word → ∀ (qual late : Bool),
      (g.cad ≠ 0 → ∃ t, exec (.seamOutLoad i qual late) s = .next t ∧ frame t ∧ t.wires = s.wires ∧
        t.seam i = { past with cad := g.cad - 1, strobe := false }) ∧
      (g.cad = 0 → ¬allowed qual → ∃ t, exec (.seamOutLoad i qual late) s = .next t ∧ frame t ∧
        t.wires = s.wires ∧ t.seam i = { past with strobe := false }) ∧
      (g.cad = 0 → allowed qual → ∀ e r, g.fifo = e :: r →
        (edges + b2n (late || s.seamForced i) ≤ e.age + 1 →
          ∃ t, exec (.seamOutLoad i qual late) s = .next t ∧ frame t ∧ t.wires = s.wires ∧ shows e.word t ∧
            t.seam i = { past with
              fifo := aged.drop 1, freeing := past.freeing ++ [0], cad := sgCad v
              xfers := (g.xfers + 1) % 2 ^ 20, shown := some e.word, driven := max g.driven (sgPins v)
              strobe := true }) ∧
        (e.age + 1 < edges + b2n (late || s.seamForced i) →
          ∃ t, exec (.seamOutLoad i qual late) s = .next t ∧ frame t ∧ t.wires = s.wires ∧
            t.seam i = { past with strobe := false })) ∧
      (g.cad = 0 → allowed qual → g.fifo = [] →
        ∃ t, exec (.seamOutLoad i qual late) s = .next t ∧ frame t ∧ t.wires = s.wires ∧
          t.seam i = if sgKind v = 2 then
              { past with strobe := false, underrun := true, flows := min 63 (g.flows + 1) }
            else { past with strobe := false })) ∧
    (out → sgBounded v = false → word → ∀ (qual late : Bool),
      let next := if g.cad = 0 then sgCad v else g.cad - 1
      let missed := fun (x : Seam) => ({ x with miss := true, misses := min 63 (g.misses + 1) } : Seam)
      (g.inFlight = none → ∃ t, exec (.seamOutLoad i qual late) s = .next t ∧ frame t ∧ t.wires = s.wires ∧
        (g.cad ≠ 0 ∨ ¬allowed qual → t.seam i = { past with cad := next, strobe := false }) ∧
        (g.cad = 0 → allowed qual → ∀ e r, g.fifo = e :: r → late = false ∨ e.age ≠ 0 →
          t.seam i = { past with cad := next, strobe := false, inFlight := some (e.word, edges - 1) }) ∧
        (g.cad = 0 → allowed qual → g.fifo = [] →
          t.seam i = missed { past with cad := next, strobe := false })) ∧
      (∀ w n, g.inFlight = some (w, n) → g.cad ≠ 0 ∨ ¬allowed qual →
        ∃ t, exec (.seamOutLoad i qual late) s = .next t ∧ frame t ∧
          (1 < n → t.wires = s.wires ∧
            t.seam i = { past with cad := next, strobe := false, inFlight := some (w, n - 1) }) ∧
          (n ≤ 1 → shows w t ∧ t.seam i = { past with
            cad := next, inFlight := none, fifo := [], xfers := (g.xfers + 1) % 2 ^ 20
            shown := some w, driven := max g.driven (sgPins v), strobe := true }))) ∧
    (out → sgBounded v = true → sgKind v = 3 → g.cad = 0 → ∀ (qual late : Bool), allowed qual →
      ∀ e r, g.fifo = e :: r → edges + b2n (late || s.seamForced i) ≤ e.age + 1 → 0 < e.word.toNat →
      g.dstCount + e.word.toNat ≤ 63 →
      let n := if sgPulses v then 1 else g.dstCount + e.word.toNat
      ∃ t, exec (.seamOutLoad i qual late) s = .next t ∧ frame t ∧ t.wires = s.wires ∧
        shows (BitVec.ofNat 64 n) t ∧
        t.seam i = { past with
          fifo := aged.drop 1, freeing := past.freeing ++ [0], cad := sgCad v
          xfers := (g.xfers + 1) % 2 ^ 20, dstCount := g.dstCount + e.word.toNat - n
          shown := some (BitVec.ofNat 64 n), driven := max g.driven (sgPins v), strobe := true }) ∧
    (inRun → sgIn v = true → s.ecRuns (sgEc v) = true → word → s.jtag.ir.ownsPads = false →
      ∀ (pads : DWord) (qual : Bool), ∃ t, exec (.seamInCapture i pads qual) s = .next t ∧ frame t ∧
        (∀ b, b < sgPins v → (t.pin (g.edgeBase + b)).seen = pads.getLsbD b) ∧
        let got := t.seam i
        let entry : SeamEntry := { word := pads, age := 0 }
        (g.cad ≠ 0 → got = { past with srcFresh := g.srcFresh, cad := g.cad - 1, strobe := got.strobe } ∧
          t.wires = s.wires) ∧
        (g.cad = 0 → allowed qual → sgBounded v = true → sgKind v = 2 →
          (g.fifo.length + g.freeing.length < 16 → got.fifo = aged ++ [entry] ∧
            got.overrun = g.overrun ∧ got.flows = g.flows ∧ got.cad = sgCad v) ∧
          (16 ≤ g.fifo.length + g.freeing.length → got.fifo = aged ∧
            got.overrun = true ∧ got.flows = min 63 (g.flows + 1))) ∧
        (g.cad = 0 → allowed qual → sgBounded v = true → sgKind v = 1 →
          got.fifo = (if g.offered then aged.take 1 else []) ++ [entry] ∧ got.cad = sgCad v ∧
          got.overrun = g.overrun) ∧
        (g.cad = 0 → sgBounded v = false → got.cad = sgCad v ∧
          (allowed qual → g.fifo = [] → g.freeing = [] → got.fifo = [entry] ∧ got.misses = g.misses) ∧
          (allowed qual → g.fifo ≠ [] ∨ g.freeing ≠ [] → got.fifo = aged ∧ got.miss = true ∧
            got.misses = min 63 (g.misses + 1) ∧
            got.overrun = (g.overrun || decide (sgQual v = 1))))) ∧
    (∀ a r, g.freeing = a :: r →
      (sgIn v = false ∨ edges - 1 + forced ≤ a →
        exec (.seamRoomVisible i) s = .next (s.setSeam i { g with freeing := r })) ∧
      (sgIn v = true → a < edges - 1 + forced → exec (.seamRoomVisible i) s = .next s)) ∧
    (inRun → sgKind v = 3 →
      (sgIn v = false → sgBounded v = true → g.fifo = [] → g.freeing = [] → g.srcCount ≠ 0 →
        exec (.eventSeamTransfer i) s = .next (s.setSeam i { g with
          fifo := [{ word := BitVec.ofNat 64 g.srcCount, age := 0 }], srcCount := 0, srcFresh := 0 })) ∧
      (sgIn v = true → g.offered = false → g.dstCount ≠ 0 → s.seamFree i = true →
        let n := if sgPulses v then 1 else g.dstCount
        ∃ t, exec (.eventSeamTransfer i) s = .next t ∧ frame t ∧ t.pins = s.pins ∧
          t.seam i = { g with offered := true, offeredCount := n } ∧
          ∀ b, b < sgLanes v → Offers t st (g.tap + b / 16) (b % 16) (n.testBit b)))

/-- Resets and configuration of seams (R211, R212, R216–R219): a group reset puts the pending configuration
in force on every member, the clocked side completes on its edges once the clocks are set, a reset of one side
alone leads to FAULT_HOLD whatever another reset makes of the epochs before it (log entry 42), and SEAM_CFG is
held as pending or refused. -/
def Obligations.SeamResets : Prop :=
  ∀ (i : SeamId) (s : State),
    let g := s.seam i
    let clocks := s.cfg.boot ≠ .tests ∧ (s.cfg.boot = .sequence → s.cfg.seqDone.getLsbD 1 = true)
    let run : Seam := { g with
      state := .run, s3 := sgSync3 g.cfg || s.ecFast (sgEc g.cfg), strobeOn := decide (sgQual g.cfg = 2) }
    (∃ t, exec (.grpRst i) s = .next t ∧ t = { s with seams := t.seams, wires := t.wires, pins := t.pins } ∧
      ((∀ k, k < 256 → (s.seam k).group = g.group → (s.seam k).pend = (s.seam k).cfg) → t.pins = s.pins) ∧
      ∀ k, k < 256 → t.seam k = if (s.seam k).group ≠ g.group then s.seam k else { s.seam k with
        cfg := (s.seam k).pend, state := if sgKind (s.seam k).pend = 0 then .off else .reset
        epochF := false, epochE := false, epochErr := false, holdPend := false, grpRst := decide (k = i.val)
        xfers := 0, flows := 0, misses := 0, fifo := [], freeing := [], offered := false, cad := 0
        inFlight := none, srcCount := 0, srcFresh := 0, dstCount := 0, offeredCount := 0, lastLevel := false
        shown := if sgIn (s.seam k).pend then none else (s.seam k).shown
        driven := if sgIn (s.seam k).pend then 0 else (s.seam k).driven }) ∧
    (g.state = .reset → s.ecRuns (sgEc g.cfg) = true → clocks →
      (sgQual g.cfg ≠ 2 → exec (.groupResetComplete i) s = .next (s.setSeam i run)) ∧
      (sgQual g.cfg = 2 → ∃ t, exec (.groupResetComplete i) s = .next t ∧
        t = { s with seams := t.seams, pins := t.pins } ∧ t.seam i = { run with strobe := sgIn g.cfg } ∧
        (∀ k, k ≠ i.val → t.seam k = s.seam k) ∧ (∀ p, p ≠ sgQualPin g.cfg → t.pin p = s.pin p) ∧
        (pcMode (s.pin (sgQualPin g.cfg)).cfg = 4 → s.padFollows (sgQualPin g.cfg) = true →
          (t.pin (sgQualPin g.cfg)).drive = some (sgIn g.cfg)))) ∧
    (g.state ≠ .reset ∨ s.ecRuns (sgEc g.cfg) = false ∨ ¬clocks →
      exec (.groupResetComplete i) s = .next s) ∧
    (g.state = .run ∨ g.state = .faultHold →
      exec (.rstF i) s = .next (s.setSeam i { g with epochF := !g.epochF, holdPend := decide (g.state = .run) }) ∧
      exec (.rstE i) s = .next (s.setSeam i { g with epochE := !g.epochE, holdPend := decide (g.state = .run) })) ∧
    (g.state = .off ∨ g.state = .reset → (∃ t, exec (.rstF i) s = .next t ∧ ∀ k, t.seam k = s.seam k) ∧
      ∃ t, exec (.rstE i) s = .next t ∧ ∀ k, t.seam k = s.seam k) ∧
    (g.state = .run → g.holdPend = true → exec (.faultHoldEntry i) s =
      .next (s.setSeam i { g with state := .faultHold, epochErr := true, holdPend := false })) ∧
    (g.state ≠ .run ∨ g.holdPend = false → ∃ t, exec (.faultHoldEntry i) s = .next t ∧ ∀ k, t.seam k = s.seam k) ∧
    exec (.seamCntClr i) s = .next (s.setSeam i { g with xfers := 0, flows := 0, misses := 0 }) ∧
    (∀ v,
      let bad := s.seamFault i v (fun k => [(s.seam k).cfg, (s.seam k).pend]) = true ∨
        (sgKind v ≠ 0 ∧ s.seamPinsOk i v = false)
      (¬bad → exec (.seamCfgWrite i v) s = .next (s.setSeam i { g with pend := v })) ∧
      (bad → exec (.seamCfgWrite i v) s = .next (s.setSeam i { g with cfgRej := true })))

/-- Writes to a pin's registers and the level on PULLSEL (R228, R236, R239–R242, R244, R246, R247, R252): the
check of a write is made on the pins as the switches in progress will leave them. A FUNCTION_SWITCH here runs
all the HK cycles that a switch has left (log entry 31). -/
def Obligations.PinWrites : Prop :=
  ∀ (p : PinId) (v : Word) (s : State),
    let x := s.pin p
    let w := v &&& 0x7FFFFFFF#32
    let refused := s.modPinBank (p / 48) (fun b => { b with cfgRej := true })
    let owned := pbBound x.binding = true ∧ s.tileAway (s.pinTile p) = true
    let new := s.setPin p { x with sw := { x.sw with cycle := 2 }, mask := 5 }
    let sound := new.pinBreaks (new.setPin p { new.pin p with cfg := x.sw.cfg }) p = false
    let idle : Switch := { cycle := 0, cfg := 0, next := none, scan := false }
    (x.sw.cycle = 0 → w = x.cfg ∨ w &&& 0x47FFFFFF#32 ≠ x.cfg &&& 0x47FFFFFF#32 →
      exec (.pinCfgWrite p v) s = .next (if s.cfgBreaks p w then refused else s.setPin p { x with
        sw := { cycle := 1, cfg := w, next := none, scan := false } })) ∧
    (x.sw.cycle = 0 → w ≠ x.cfg → w &&& 0x47FFFFFF#32 = x.cfg &&& 0x47FFFFFF#32 →
      exec (.pinCfgWrite p v) s = .next (s.setPin p { x with cfg := w })) ∧
    (0 < x.sw.cycle → exec (.pinCfgWrite p v) s = .next (if s.cfgBreaks p w then refused
      else s.setPin p { x with sw := { x.sw with next := some w } })) ∧
    (x.sw.cycle = 0 → exec (.functionSwitch p) s = .next s) ∧
    (x.sw.cycle = 1 → x.sw.next = none → x.sw.scan = false → s.pins.released = true → x.contained = false →
      ¬owned → sound →
      (pcMode x.sw.cfg = 0 → exec (.functionSwitch p) s = .next (s.setPin p { x with
        cfg := x.sw.cfg, sw := idle, mask := 2, srcLevel := none, srcOe := none
        drive := if x.oeLatch then some x.outLatch else none, kept := leftLevel x })) ∧
      (pcMode x.sw.cfg = 1 → pbOe x.binding ≠ 1 → exec (.functionSwitch p) s = .next (s.setPin p { x with
        cfg := x.sw.cfg, sw := idle, mask := 2, srcLevel := none, srcOe := none }))) ∧
    (x.sw.cycle = 1 → x.sw.next = none → x.sw.scan = false → ¬sound →
      ∃ t, exec (.functionSwitch p) s = .next t ∧ t = { s with pins := t.pins } ∧ (t.pin p).cfg = x.cfg ∧
        (t.pin p).sw.cycle = 0 ∧ (t.pinBank (p / 48)).cfgRej = true ∧ ∀ q, q ≠ p.val → t.pin q = s.pin q) ∧
    (∀ w', x.sw.cycle = 4 → x.sw.next = some w' → exec (.functionSwitch p) s = .next (s.setPin p { x with
      sw := { cycle := 2, cfg := w', next := none, scan := false }, mask := 5 })) ∧
    (let y : Pin := { x with
       trig := v.extractLsb' 0 3, dg := v.extractLsb' 3 8, same := 0
       laneEn := v.getLsbD 12, tileEv := v.getLsbD 13 }
     let breaks := s.settledPins.pinBreaks (s.settledPins.modPin p (fun x => { x with
       trig := v.extractLsb' 0 3, dg := v.extractLsb' 3 8, same := 0
       laneEn := v.getLsbD 12, tileEv := v.getLsbD 13 })) p
     (breaks = true → exec (.pinIrqWrite p v) s = .next refused) ∧
     (breaks = false → (v.extractLsb' 0 3).toNat < 4 →
        exec (.pinIrqWrite p v) s = .next (s.setPin p { y with
          pend := x.pend && !v.getLsbD 11, evOvf := x.evOvf && !v.getLsbD 14
          psUnder := x.psUnder && !v.getLsbD 16 })) ∧
     (breaks = false → v.extractLsb' 0 3 = (if x.level then 4 else 5) →
        ∃ t, exec (.pinIrqWrite p v) s = .next t ∧
          t = { s with pins := t.pins, tiles := t.tiles, wires := t.wires } ∧
          (x.mask = 0 → s.pins.released = true → s.padOff p = false → s.oddOfPair p = false →
            (t.pin p).pend = true) ∧
          (x.mask ≠ 0 → (t.pin p).pend = x.pend ∧ t.tiles = s.tiles) ∧
          (x.pend = true → t.tiles = s.tiles ∧ t.wires = s.wires) ∧ ∀ q, q ≠ p.val → t.pin q = s.pin q)) ∧
    (∀ (oe : Bool) (k : Fin 18), ∃ t, exec (.pinLatchWrite oe k v) s = .next t ∧ t = { s with pins := t.pins } ∧
      (∀ q, q / 32 ≠ k.val → t.pin q = s.pin q) ∧
      ∀ b, b < 32 → let q := 32 * k.val + b
        ((s.pin q).pinwAt = some s.time → t.pin q = s.pin q) ∧
        ((s.pin q).pinwAt ≠ some s.time →
          (t.pin q).cfg = (s.pin q).cfg ∧
          (t.pin q).outLatch = (if oe then (s.pin q).outLatch else v.getLsbD b) ∧
          (t.pin q).oeLatch = (if oe then v.getLsbD b else (s.pin q).oeLatch) ∧
          (t.pin q).drive = if s.padFollows q = true ∧ pcMode (s.pin q).cfg = 0 then
            (if (t.pin q).oeLatch then some (t.pin q).outLatch else none) else (s.pin q).drive)) ∧
    (∀ l, exec (.pullselChange l) s = .next { s with pins := { s.pins with pullsel := l } })

/-- Signals of a pin (R215, R232, R234, R243–R246): an entry of the pin seam that s + 1 edges have seen
reaches the pad, in DDR first its rising-edge bit and then its falling-edge bit; a captured sample reaches the
fabric; and an accepted level that the trigger matches is recorded, counts as an event and goes out on the
event lane. -/
def Obligations.PinSignals : Prop :=
  ∀ (p : PinId) (s : State),
    let x := s.pin p
    let t' := s.pinTile p
    let j := pbTap x.binding
    let b := pbLane x.binding
    let seam := pcMode x.cfg = 2 ∨ pcMode x.cfg = 3
    (∀ rise fall e r, seam → x.psFault = false → s.ecRuns (pcEc x.cfg) = true →
      x.psOut = e :: r → (if x.psS3 then 4 else 3) ≤ e.age + 1 →
      let on := pbOe x.binding = 0 ∨ (pbOe x.binding = 2 ∧ e.en = true)
      ∃ t, exec (.pinSeamTransfer p rise fall) s = .next t ∧
        (t.pin p).psOut = r.map (fun e => { rise := e.rise, fall := e.fall, en := e.en, age := e.age + 1 }) ∧
        (t.pin p).psStarted = true ∧ (t.pin p).psUnder = x.psUnder ∧
        (s.padFollows p = true → (t.pin p).drive =
          if on then some (if pcMode x.cfg = 3 then e.fall else e.rise) else none) ∧
        (pcMode x.cfg = 3 → fall = none → on → s.padFollows p = true → s.padOff p = false →
          s.jtag.ir.ownsPads = false → s.oddOfPair p = false → s.inwardFree t' j b = false →
          ∃ a, (t.pin p).psIn = some (a, e.rise))) ∧
    (∀ a fall, pcMode x.cfg = 2 → x.psFault = false → s.ecRuns (pcEc x.cfg) = true →
      s.pins.released = true → x.psOut = [] → s.jtag.ir.ownsPads = false → s.oddOfPair p = false →
      s.padOff p = false → s.padDrive p = none →
      ∃ t, exec (.pinSeamTransfer p (some a) fall) s = .next t ∧ (t.pin p).kept = a ∧
        (t.pin p).psUnder = (x.psUnder || x.psStarted) ∧
        (s.moves t' = true → s.inwardFree t' j b = true →
          Offers t t' j b a ∧ (t.pin p).psIn = none) ∧
        (s.inwardFree t' j b = false → (t.pin p).psIn = some (a, a) ∧ t.wires = s.wires)) ∧
    (∀ l,
      let matches' := fun (v : Bool) => (x.trig = 4 ∧ v = true) ∨ (x.trig = 5 ∧ v = false)
      let hit := s.pins.released = true ∧ s.padOff p = false ∧ x.mask = 0 ∧ s.oddOfPair p = false ∧
        ((x.trig = 1 ∧ x.level = false ∧ l = true) ∨ (x.trig = 2 ∧ x.level = true ∧ l = false) ∨
          (x.trig = 3 ∧ x.level ≠ l) ∨ (matches' l ∧ (¬matches' x.level ∨ x.pend = false)))
      (¬hit → exec (.pinDetection p l) s = .next (s.setPin p { x with level := l, same := 0 })) ∧
      (hit → ∃ t, exec (.pinDetection p l) s = .next t ∧
        t = { s with pins := t.pins, tiles := t.tiles, wires := t.wires } ∧
        (∀ q, q ≠ p.val → t.pin q = s.pin q) ∧ (t.pin p).pend = true ∧ (t.pin p).level = l ∧ (t.pin p).same = 0 ∧
        (x.pend = true ∨ (s.pinBank (p / 48)).evEn = false ∨ x.tileEv = false → t.tiles = s.tiles) ∧
        (let e := (s.pinBank (p / 48)).evTile.toNat
         x.pend = false → (s.pinBank (p / 48)).evEn = true → x.tileEv = true →
          (s.core e).state ≠ .off → (s.core e).state ≠ .fenced →
          (t.tile e).evt = (s.tile e).evt ||| 0x2000#16) ∧
        (x.laneEn = false ∨ pbBound x.binding = false → t.wires = s.wires ∧ (t.pin p).evOvf = x.evOvf) ∧
        (x.laneEn = true → pbBound x.binding = true →
          (s.inwardFree t' j b = true → Offers t t' j b true ∧ (t.pin p).evOvf = x.evOvf) ∧
          (s.inwardFree t' j b = false → (t.pin p).evOvf = true ∧ t.wires = s.wires))))


/-- Fences (R183, R304, R355, R358–R361, R366–R368): of a tile, of an engine, and the release of an engine's
fence. A fence drops what else was asked of its tile, and its region, outside the stream of a full load, reads
FENCED and none of the region's eyelet ports asks anything more. -/
def Obligations.Fences : Prop :=
  ∀ (t' : TileId) (s : State),
    (∀ f rest, s.flt.tileReq = (t'.val, f) :: rest → (s.tile t').fenced = false →
      ∃ t, exec (.tileFence t') s = .next t ∧ t.flt.tileFence = true ∧
        t.flt.tileReq.all (fun q => q.1 ≠ t'.val) = true ∧ t.flt.engReq.all (fun q => q.1 ≠ t'.val) = true) ∧
    (∀ f rest, s.flt.tileReq = (t'.val, f) :: rest → (s.tile t').fenced = false → PortsQuiet s (s.regionOf t') →
      ∃ t, exec (.tileFence t') s = .next t ∧ (t.tile t').fenced = true ∧ (t.tile t').power = .on ∧
        (t.tile t').fabric = .held ∧ (t.core t').state = .fenced ∧ (t.core t').stores = [] ∧
        t.flt.tileReq = rest.filter (fun q => q.1 ≠ t'.val) ∧
        t.flt.engReq = s.flt.engReq.filter (fun q => q.1 ≠ t'.val) ∧ t.flt.tileFence = true ∧
        t.flt.engFence = (s.flt.engFence || (s.core t').state != .fenced) ∧
        (¬(s.cfg.state = .loadingFull ∧ s.cfg.boot ≠ .tests) → ∀ n, n = s.regionOf t' →
          s.commanded .load n = false →
          (t.region n).state = .fenced ∧
          ∀ k e, k < 128 → s.regionOf k = n → e < 16 → t.req (256 + 16 * k + e) = LaceReq.init 0) ∧
        (f = false → t.dev = s.dev) ∧
        (f = true → t.dev.tilesTotal = min 255 (s.dev.tilesTotal + 1) ∧
          t.dev.enginesTotal =
            (if (s.core t').state = .fenced then s.dev.enginesTotal else min 255 (s.dev.enginesTotal + 1)) ∧
          t.dev.svcTiles = (s.dev.svcTiles ||
            (s.dev.tileThr != 0 && decide (s.dev.tileThr.toNat ≤ min 255 (s.dev.tilesTotal + 1))))) ∧
        ∀ k, k ≠ t'.val → (t.core k) = s.core k ∧ (t.tile k).fenced = (s.tile k).fenced) ∧
    (∀ f rest, s.flt.engReq = (t'.val, f) :: rest → (s.core t').state ≠ .fenced →
      ∃ t, exec (.engineFence t') s = .next t ∧ (t.core t').state = .fenced ∧ (t.core t').stores = [] ∧
        (t.tile t').fenced = (s.tile t').fenced ∧ t.flt.engReq = rest ∧ t.flt.engFence = true ∧
        t.dev.enginesTotal = (if f then min 255 (s.dev.enginesTotal + 1) else s.dev.enginesTotal) ∧
        ∀ k, k ≠ t'.val → (t.core k) = s.core k) ∧
    (∀ f rest, s.flt.tileReq = (t'.val, f) :: rest → (s.tile t').fenced = true →
      exec (.tileFence t') s = .next { s with flt := { s.flt with tileReq := rest } }) ∧
    ((s.core t').state = .fenced → (s.tile t').fenced = false →
      exec (.efenceRelease t') s = .next (s.setCore t' { s.core t' with
        state := if (s.tile t').power = .on ∧ (s.regionState t' = .running ∨ s.regionState t' = .fenced)
          then .halted else .off })) ∧
    ((s.core t').state ≠ .fenced ∨ (s.tile t').fenced = true → exec (.efenceRelease t') s = .next s)

/-- The fault log and the stall watchdog (R355–R357, R361, R363–R365, R371, R383): one fence is asked for all the
faults that come before it takes place. That a stall counts as injected while PERT_BP holds an acknowledge in
the tile is the model's reading (log entry 98). -/
def Obligations.FaultLog : Prop :=
  (∀ (s : State) (r : Report) (rest : List Report), s.flt.inbox = r :: rest → r.code < 256 → s.actionOf r < 256 →
    let entry := fun (l : SMap Record) => SMap.read Record.zero l s.flt.head
    ∃ t, exec .faultReport s = .next t ∧ t = { s with flt := t.flt } ∧ t.flt.inbox = rest ∧
      (entry t.flt.log).w0 = r.time ∧ (entry t.flt.log).w3 = r.detail ∧
      (entry t.flt.log).w1.extractLsb' 0 8 = BitVec.ofNat 8 r.code ∧
      (entry t.flt.log).w1.extractLsb' 16 8 = BitVec.ofNat 8 (s.actionOf r) ∧
      (entry t.flt.log).w1.extractLsb' 24 8 = s.flt.seq ∧
      ((entry t.flt.log).w1.getLsbD 8 = r.inRetry ∧ (entry t.flt.log).w1.getLsbD 9 = r.retry ∧
        (entry t.flt.log).w1.getLsbD 10 = r.timeout ∧ (entry t.flt.log).w1.getLsbD 11 = r.isPartial ∧
        (entry t.flt.log).w1.getLsbD 12 = r.golden ∧ (entry t.flt.log).w1.getLsbD 13 = r.injected) ∧
      (entry t.flt.log).w2.getLsbD 7 = r.dev ∧
      (r.dev = false → (entry t.flt.log).w2.extractLsb' 0 7 = BitVec.ofNat 7 r.tile) ∧
      (entry t.flt.log).w2.extractLsb' 8 10 = BitVec.ofNat 10 r.index ∧
      (entry t.flt.log).w2.extractLsb' 18 4 = BitVec.ofNat 4 r.cell ∧
      (entry t.flt.log).w2.extractLsb' 22 8 = BitVec.ofNat 8 r.cause ∧
      (∀ i, i ≠ s.flt.head → SMap.read Record.zero t.flt.log i = SMap.read Record.zero s.flt.log i) ∧
      t.flt.head = (s.flt.head + 1) % 64 ∧ t.flt.seq = s.flt.seq + 1 ∧ t.flt.new = true ∧
      t.flt.count = min 0xFFFF (s.flt.count + 1) ∧ t.flt.lost = (s.flt.lost || decide (64 ≤ s.flt.fresh)) ∧
      (let asks := fun (a : Nat) (fenced : Prop) (l l' : List (Nat × Bool)) =>
        (s.actionOf r ≠ a ∨ fenced → l' = l) ∧
        (s.actionOf r = a → ¬fenced →
          ((∀ q ∈ l, q.1 ≠ r.tile) → l' = l ++ [(r.tile, decide (r.code ≠ 0x0D))]) ∧
          ((∃ q ∈ l, q.1 = r.tile) → l'.map (·.1) = l.map (·.1)))
      asks 2 ((s.tile r.tile).fenced = true) s.flt.tileReq t.flt.tileReq ∧
      asks 1 ((s.core r.tile).state = .fenced) s.flt.engReq t.flt.engReq)) ∧
  (∀ (t' : TileId) (i : Fin 64) (s : State), (s.tile t').stallEn = true → (s.tile t').tripped = false →
    s.live t' = true → 0 < i.val → (s.watch t' i).testBit 31 = true →
    s.stalled t' (nfld (s.watch t' i) 0 10) (nfld (s.watch t' i) 10 6) = true →
    ∃ t r, exec (.stallTrip t' i) s = .next t ∧
      t = (s.setTile t' { s.tile t' with tripped := true, stallLane := i.val }).report r ∧
      r.code = 7 ∧ r.tile = t'.val ∧ r.index = nfld (s.watch t' i) 0 10 ∧ r.detail = word i.val ∧
      r.injected = s.wires.bpHeld.any (inTile t') ∧
      r.action = if (s.tile t').stallFence then 2 else 0) ∧
  (∀ (t' : TileId) (i : Fin 64) (s : State),
    (s.tile t').stallEn = false ∨ (s.tile t').tripped = true ∨ s.live t' = false →
    exec (.stallTrip t' i) s = .next s) ∧
  (∀ s : State, exec .logheadClr s = .next { s with flt := { s.flt with
    log := [], head := 0, wrapped := false, fresh := 0 } }) ∧
  (∀ (t' : TileId) (s : State),
    exec (.weltCntClr t') s = .next (s.setTile t' { s.tile t' with drained := 0 }))

/-- The configuration scrubber (R290, R301, R355, R366–R368): a pass takes the frames in ascending address
order, a single-bit error is corrected and counted, a double-bit error is reported for a fence. -/
def Obligations.Scrubber : Prop :=
  ∀ (s : State),
    (s.cfg.scrubEn = true → s.cfg.scrubAt = none →
      exec .scrubPassStart s = .next { s with cfg := { s.cfg with scrubAt := some 0 } }) ∧
    exec .scrubCntClr s = .next { s with cfg := { s.cfg with scrubCe := 0, scrubUe := 0 } } ∧
    (∀ n, s.cfg.scrubEn = true → s.cfg.scrubAt = some n → s.scrubNext n = some n →
      let on := fun (c : Cfg) => match s.scrubNext (n + 1) with
        | some m => { c with scrubAt := some m }
        | none => { c with scrubAt := none, scrubPasses := c.scrubPasses + 1 }
      exec (.scrubFrame []) s = .next { s with cfg := on s.cfg } ∧
      (∀ w, exec (.scrubFrame [(w, false)]) s = .next { s with cfg := on { s.cfg with
        scrubCe := min 0xFFFF (s.cfg.scrubCe + 1) } }) ∧
      (∀ w, ∃ t r, exec (.scrubFrame [(w, true)]) s = .next t ∧
        t = { s with cfg := t.cfg, dev := t.dev, flt := t.flt } ∧
        t.cfg = on { s.cfg with scrubUe := min 0xFF (s.cfg.scrubUe + 1) } ∧
        t.dev.cfgUeTotal = min 255 (s.dev.cfgUeTotal + 1) ∧
        t.flt = { s.flt with inbox := s.flt.inbox ++ [r] } ∧ r.code = 3 ∧
        r.tile = faTile (scrubAddr n) ∧ r.detail = word (scrubAddr n)))

/-- The commands of CFG_PCMD (R89, R256, R297, R305, R306, R311, R318, R321): each is accepted from its states
and otherwise only sets rej; load and clear put the region in LOADING, which holds the pacers whose join lies in
it; a load from flash starts a read of the image. -/
def Obligations.RegionCommands : Prop :=
  ∀ (s : State),
    let r := s.cfg.preg.toNat
    let rej := { s with cfg := { s.cfg with pcmdRej := true } }
    let onTiles := fun (t : State) => ∀ k, k < 128 → s.regionOf k = r →
      (t.tile k).power = .on ∧ (t.tile k).fenced = false ∧ (t.tile k).bankFenced = false ∧
      (t.tile k).clearing = true ∧ (t.tile k).fabric = .held ∧ (t.core k).state = .off ∧
      ∀ a, memOf (a / 4) = .bank k ∨ memOf (a / 4) = .engine k → t.byte a = 0
    let begun := fun (k : RegionCmd) (t : State) => (t.region r).state = .loading ∧
      t.cfg.cmds = s.cfg.cmds.filter (fun c => c.2 ≠ r) ++ [(k, r)] ∧ (PortsQuiet s r → onTiles t) ∧
      (∀ n, n < 64 → s.regionOf (s.paceTile n) = r →
        (t.pacer n).held = some r ∧ (t.pacer n).lead = 0 ∧ (t.pacer n).debt = 0 ∧ (t.pacer n).acc = 0) ∧
      ∀ q, q ≠ r → t.region q = s.region q
    (s.accepts .load = true → ∃ t, exec .regionLoad s = .next t ∧ begun .load t ∧ t.cfg.state = .loadingPartial ∧
      (s.cfg.pcmdSrc = true → t.cfg.flash = s.cfg.flash) ∧
      (s.cfg.pcmdSrc = false → ∃ f, t.cfg.flash = some f ∧
        let long := match s.cfg.table with | some b => b.addr4 | none => false
        f.cmd = (if s.cfg.bootsel = 2 then (if long then 0x13 else 0x03) else if long then 0x6C else 0x6B) ∧
        f.addr = (if s.cfg.bootsel = 1 then s.cfg.psrc.toNat / 2 else s.cfg.psrc.toNat) %
          2 ^ (if long then 32 else 24)) ∧
      t.cfg.load = some (ImageLoad.begin (if s.cfg.pcmdSrc then .memory else .flash) true false
        s.cfg.psrc.toNat s.cfg.plen.toNat)) ∧
    (s.accepts .clear = true → ∃ t, exec .regionClear s = .next t ∧ begun .clear t ∧ t.cfg.state = .done) ∧
    (s.accepts .release = true → exec .regionRelease s = .next { s with cfg := { s.cfg with
      cmds := s.cfg.cmds.filter (fun c => c.2 ≠ r) ++ [(.release, r)] } }) ∧
    (∀ l, s.cfg.load = some l → l.partialImage = true → l.cleared = true → s.commanded .load r = true →
      s.loadRegion = r →
      ∃ t, exec .regionAbort s = .next t ∧ (t.region r).state = .aborted ∧ t.cfg.load = none ∧
        t.cfg.state = .done ∧ t.cfg.err = 26 ∧ t.cfg.errAddr = word l.offset ∧ t.cfg.errIsOffset = true ∧
        t.cfg.errPartial = true ∧ t.cfg.pcmdDone = true ∧
        t.commanded .load r = false ∧ ∃ q, t.flt.inbox = s.flt.inbox ++ [q] ∧ q.code = 0x0A ∧ q.action = 5) ∧
    (s.accepts .load = false → exec .regionLoad s = .next rej) ∧
    (s.accepts .clear = false → exec .regionClear s = .next rej) ∧
    (s.accepts .release = false → exec .regionRelease s = .next rej) ∧
    (s.cfg.load = none → exec .regionAbort s = .next rej) ∧
    (∀ l, s.cfg.load = some l → l.partialImage = false ∨ l.cleared = false ∨ s.commanded .load r = false →
      exec .regionAbort s = .next rej) ∧
    (s.cfg.state ≠ .done ∨ r = 0 ∨ (s.region r).mask = 0 ∨ (∃ q, q < 16 ∧ q ≠ r ∧ (s.region q).state = .loading) →
      s.accepts .load = false ∧ s.accepts .clear = false ∧ s.accepts .release = false) ∧
    ((s.region r).state ≠ .held → s.accepts .release = false) ∧
    ((s.region r).state = .loading → s.accepts .load = false ∧ s.accepts .clear = false) ∧
    ((s.region r).state = .empty → s.accepts .clear = false)

/-- How the commands of CFG_PCMD end (R89, R283, R304, R305, R310, R314, R321): the clearing, the release of every
tile, by command or as a start-up step, with the pacers that the region's reload held, and the gating after a
clear. -/
def Obligations.RegionEnds : Prop :=
  ∀ (r : RegionId) (s : State),
    (∀ l, s.cfg.load = some l → l.partialImage = true → l.cleared = false → s.commanded .load r = true →
      ∃ t, exec (.loadingCleared r) s = .next t ∧ t = { s with tiles := t.tiles, cfg := t.cfg } ∧
        t.cfg = { s.cfg with
          load := some { l with cleared := true }, framesWritten := 0
          wdogEff := if s.cfg.wdogMs = 0 then 1 else s.cfg.wdogMs.toNat } ∧
        ∀ k, k < 128 → t.tile k = if s.regionOf k = r then { s.tile k with clearing := false } else s.tile k) ∧
    (∀ l, s.cfg.load = some l → l.partialImage = false ∨ l.cleared = true ∨ s.commanded .load r = false →
      exec (.loadingCleared r) s = .next s) ∧
    (let byStep := ∃ left, s.cfg.seqPhase = .regions left ∧ r.val ∈ left
     (s.commanded .release r = false → ¬byStep → exec (.releaseComplete r) s = .next s) ∧
     ((s.region r).state ≠ .held → exec (.releaseComplete r) s = .next s) ∧
     ((s.commanded .release r = true ∨ byStep) → (s.region r).state = .held → PortsQuiet s r →
      ∃ t, exec (.releaseComplete r) s = .next t ∧ (t.region r).state = .running ∧
        (s.commanded .release r = true → t.cfg.pcmdDone = true ∧ t.commanded .release r = false) ∧
        (s.commanded .release r = false → t.cfg = { s.cfg with regions := t.cfg.regions }) ∧
        (∀ n, n < 64 → t.pacer n =
          if (s.pacer n).held = some r.val then { s.pacer n with held := none, acc := 0 } else s.pacer n) ∧
        ∀ k, k < 128 → s.regionOf k = r → (s.tile k).power = .on → (s.tile k).fenced = false →
          (s.core k).state ≠ .fenced →
          (s.tilePowerBit k = true → (t.tile k).power = .on ∧ (t.tile k).fabric = .live ∧
            ((s.tile k).autostart = true → (t.core k).state = .running ∧ (t.core k).pc = 0x01800000#32 ∧
              ∀ m, t.regIn k 0 m = 0) ∧
            ((s.tile k).autostart = false → (t.core k).state = .halted)) ∧
          (s.tilePowerBit k = false → s.pwr.powerQueue.contains k = false →
            (t.tile k).power = (if (s.tile k).retMode then .retain else .gated) ∧ (t.core k).state = .off))) ∧
    (s.commanded .clear r = false → exec (.clearComplete r) s = .next s) ∧
    (s.commanded .clear r = true → PortsQuiet s r →
      ∃ t, exec (.clearComplete r) s = .next t ∧ (t.region r).state = .empty ∧ t.cfg.pcmdDone = true ∧
        t.commanded .clear r = false ∧
        ∀ k, k < 128 → s.regionOf k = r → (s.tile k).power = .on → (s.tile k).fenced = false →
          s.pwr.powerQueue.contains k = false →
          (t.tile k).power = (if (s.tile k).retMode then .retain else .gated))

/-- Gating and powering of tiles (R124, R346–R348): a write is refused or starts the gating, power is
removed, and the queue powers one tile at a time, which comes back HALTED with its memories clear. -/
def Obligations.Gating : Prop :=
  ∀ (t' : TileId) (s : State),
    let x := s.tile t'
    (x.fenced = true ∨ s.regionState t' ≠ .running →
      exec (.tileGate t') s = .next { s with pwr := { s.pwr with gateRej := true } } ∧
      exec (.tilePower t') s = .next { s with pwr := { s.pwr with gateRej := true } }) ∧
    (x.fenced = false → s.regionState t' = .running →
      (x.power = .on → PortsQuiet s (s.regionOf t') → ∃ t, exec (.tileGate t') s = .next t ∧ (t.tile t').power = .gating x.retMode ∧
        ((s.core t').state = .fenced → t.core t' = s.core t') ∧
        ((s.core t').state ≠ .fenced → (t.core t').state = .off ∧ (t.core t').stores = []) ∧
        ∀ k, k ≠ t'.val → t.tile k = s.tile k ∧ t.core k = s.core k) ∧
      (x.power = .gated → exec (.tilePower t') s = .next
        (({ s with pwr := { s.pwr with powerQueue := s.pwr.powerQueue ++ [t'.val] } } : State).setTile t'
          { x with power := .queued false })) ∧
      (∀ m, x.power = .queued m → exec (.tileGate t') s = .next
        (({ s with pwr := { s.pwr with powerQueue := s.pwr.powerQueue.filter (· ≠ t'.val) } } : State).setTile t'
          { x with power := if m then .retain else .gated })) ∧
      (x.power = .retain → exec (.tilePower t') s = .next
        (({ s with pwr := { s.pwr with powerQueue := s.pwr.powerQueue ++ [t'.val] } } : State).setTile t'
          { x with power := .queued true }))) ∧
    (∀ m, x.power = .gating m → s.pwr.powerQueue.contains t'.val = false →
      ∃ t, exec (.tilePowerRemoved t') s = .next t ∧ (t.tile t').power = (if m then .retain else .gated) ∧
        (t.tile t').fabric = .held ∧ (t.tile t').clearing = false ∧ t.mem = s.mem ∧
        t.cfg = s.cfg ∧ ∀ k, k ≠ t'.val → t.tile k = s.tile k) ∧
    (∀ m rest, s.pwr.powerQueue = t'.val :: rest → x.power = .queued m →
      ∃ t, exec .tilePowerRestore s = .next t ∧ (t.tile t').power = .restoring m ∧ (t.tile t').clearing = true ∧
        (t.tile t').fabric = .held ∧ t.pwr.powerQueue = rest.filter (· ≠ t'.val) ∧
        (∀ a, memOf (a / 4) = .engine t' → t.byte a = 0) ∧
        (∀ a, memOf (a / 4) = .bank t' → t.byte a = if m then s.byte a else 0) ∧
        (∀ a, memOf (a / 4) ≠ .engine t' → memOf (a / 4) ≠ .bank t' → t.byte a = s.byte a) ∧
        ∀ k, k ≠ t'.val → t.tile k = s.tile k ∧ t.core k = s.core k) ∧
    (∀ m, x.power = .restoring m → x.clearing = true → exec (.tilePowerComplete t') s = .next s) ∧
    (∀ m, x.power = .restoring m → x.clearing = false → x.fenced = false → (s.core t').state ≠ .fenced →
      ∃ t, exec (.tilePowerComplete t') s = .next t ∧ (t.tile t').power = .on ∧ (t.tile t').fabric = .live ∧
        t.core t' = { s.core t' with state := .halted } ∧ t.mem = s.mem ∧
        ∀ k, k ≠ t'.val → t.tile k = s.tile k ∧ t.core k = s.core k)

/-- The governor and its regulator (R337, R338, R342–R345): at a window end temperature comes before the
limits and the mode's rule, a PACE raise is immediate and starts a new window, and a VOUT_COMMAND carries
round(V × 2^-N) and is repeated once. `goal` is the target last set, on its way to the regulator or in force.
The estimate is stated where R345 and R48 give every number: at 850 mV and 85 °C. How the mean of a window is
rounded, and that a window with no sample keeps the reading before it, is the model's choice (log entry 86), as is
the repeat of a PMBus transaction as one command (log entry 96). -/
def Obligations.Governor : Prop :=
  ∀ (s : State),
    let p := s.pwr
    let lo := (p.vmin + 4) / 5 * 5
    let hi := p.vmax / 5 * 5
    let limit := fun v => if hi < v then hi else if v < lo then lo else v
    let step := 5 * max 1 p.upStep.toNat
    (∀ mv ps slow, ∃ t, exec (.governorWindow mv ps slow) s = .next t ∧ t = { s with pwr := t.pwr } ∧
      let m := p.nextMode.getD p.mode
      let n := if p.estN = 0 then p.pnow else min 0xFFF (p.estSum / (p.estN * 10 ^ 8))
      t.pwr.pnow = n ∧ t.pwr.pnowMax = max p.pnowMax n ∧ t.pwr.estSum = 0 ∧ t.pwr.estN = 0 ∧
      t.pwr.meas = min 1023 mv ∧ t.pwr.speedPs = min 0xFFF ps ∧ t.pwr.speedQ = slow.val ∧
      t.pwr.mode = m ∧ t.pwr.nextMode = none ∧ t.pwr.calm = true ∧ t.pwr.suspend = p.suspend - 1 ∧
      t.pwr.target = p.target ∧
      (s.governs = false → t.pwr.vout = p.vout ∧ t.pwr.budgetOvr = p.budgetOvr) ∧
      (s.governs = true → (p.tlim : Int) < p.tj → t.pwr.goal = p.goal - step) ∧
      (s.governs = true → p.tj ≤ (p.tlim : Int) → p.thermHold = false →
        (m = 0 → t.pwr.goal = limit p.vset) ∧
        (m = 1 → p.budget < n → t.pwr.goal = limit (p.goal - step) ∧
          t.pwr.budgetOvr = (p.budgetOvr || decide (p.goal ≤ lo))) ∧
        (m = 1 → n ≤ p.budget → 10 * n < 9 * p.budget → p.goal < p.vset → t.pwr.goal = limit (p.goal + 5)) ∧
        (m = 1 → n ≤ p.budget → 9 * p.budget ≤ 10 * n ∨ p.vset ≤ p.goal → t.pwr.goal = limit p.goal) ∧
        (m = 2 → t.pwr.goal = limit (if p.calm = true ∧ p.suspend = 0 ∧ s.eligible ≠ [] then p.goal - 5 else p.goal))) ∧
      (s.governs = true → p.tj ≤ (p.tlim : Int) → p.thermHold = true → t.pwr.goal ≤ p.goal)) ∧
    (∃ t, exec .governorSample s = .next t ∧ t = { s with pwr := t.pwr, pacers := t.pacers } ∧
      (∀ n, n < 64 → t.pacer n = { s.pacer n with fresh := false }) ∧
      t.pwr.accesses = 0 ∧ t.pwr.nodeOps = 0 ∧
      (∀ c, c < 129 → SMap.read (fun _ => 0) t.pwr.instrAt c = (s.core c).instret) ∧
      let raise := s.governs = true ∧ p.mode = 2 ∧ p.thermHold = false ∧ p.tj ≤ (p.tlim : Int) ∧
        ∃ n ∈ s.eligible, (s.pacer n).depth / 2 < (s.pacer n).lead ∨ (s.pacer n).fresh = true
      (raise → t.pwr.goal = limit (p.goal + step) ∧ t.pwr.suspend = p.hold.toNat ∧ t.pwr.calm = true ∧
        t.pwr.estSum = 0 ∧ t.pwr.estN = 0) ∧
      (¬raise → t.pwr.vout = p.vout ∧ t.pwr.suspend = p.suspend ∧ t.pwr.estN = p.estN + 1 ∧
        (p.meas = 850 → p.tj = 85 →
          let retired := ((List.range 129).map (fun c =>
            let a := SMap.read (fun _ => 0) p.instrAt c
            if a ≤ (s.core c).instret then (s.core c).instret - a else (s.core c).instret)).sum
          let rate := ((List.range 128).map (fun k =>
            if (s.tile k).power.off = true ∨ (s.tile k).fenced = true then 0 else (s.tile k).tokRate)).sum
          let leak := ((List.range 128).map (fun k => match (s.tile k).power with
            | .gated => 5000000
            | .queued false => 5000000
            | .retain => 24000000
            | .queued true => 24000000
            | _ => 234000000)).sum
          t.pwr.estSum = p.estSum + (rate * 256 * 220 + retired * 390000 + p.accesses * 25000 +
            p.nodeOps * 3000000 + leak + 450000000 + (if s.clk.rootLock = true then 200000000 else 0) +
            150000000 * ((List.range 8).filter (fun n => s.ecRuns n)).length)) ∧
        (s.governs = true → p.mode = 2 →
          (t.pwr.calm = true ↔ p.calm = true ∧ ∀ n ∈ s.eligible, (s.pacer n).lead = 0 ∧ (s.pacer n).fresh = false)) ∧
        (s.governs = false ∨ p.mode ≠ 2 → t.pwr.calm = p.calm))) ∧
    (∀ v again, p.vout = some (v, again) → ∃ w : BitVec 16,
      let sent := { p with pmSent := [{ addr := p.pmAddr, pec := p.pec, code := 0x21, data := some w }] }
      w.toNat = (if 16 ≤ p.voutN.toNat then (2 * v * 2 ^ (32 - p.voutN.toNat) + 1000) / 2000
        else (2 * v + 1000 * 2 ^ p.voutN.toNat) / (2000 * 2 ^ p.voutN.toNat)) % 2 ^ 16 ∧
      exec (.voutCommand true) s = .next { s with pwr := { sent with
        target := v, vout := none, settled := decide (p.meas ≤ v + 10) && decide (v ≤ p.meas + 10) } } ∧
      exec (.voutCommand false) s = .next { s with pwr :=
        if again then { sent with vout := none, pmErr := true } else { sent with vout := some (v, true) } }) ∧
    (p.vout = none → ∀ b, exec (.voutCommand b) s = .next s) ∧
    (∀ (w : Option (BitVec 16)) (cleared : Bool),
      (p.pmbusOk = false → exec (.pmAlert w cleared) s = .next { s with pwr := { p with pmAlert := true } }) ∧
      (p.pmbusOk = true → exec (.pmAlert w cleared) s = .next { s with pwr := { p with
        pmAlert := true, pmStatus := w.getD p.pmStatus
        pmErr := p.pmErr || w.isNone || !cleared
        pmSent := [{ addr := p.pmAddr, pec := p.pec, code := 0x79, data := none },
          { addr := p.pmAddr, pec := p.pec, code := 0x03, data := none }] } }))

/-- Supplies, temperature and the PWR registers (R335, R336, R339, R341, R342, R350–R352, R386): warnings,
their re-arming 10 mV or 20 mV above, readings, what a write is held to, and the thermal trip and restart.
PWR_VNOW shows no more than 1023 mV (log entry 52). -/
def Obligations.SupplyMonitors : Prop :=
  ∀ (s : State),
    let p := s.pwr
    (∀ mv,
      let m := min 1023 mv
      let seen := { p with
        meas := m, settled := decide (m ≤ p.target + 10) && decide (p.target ≤ m + 10) }
      (p.warnArmed = true → mv < p.warn →
        exec (.vcoreWarning mv) s = .next { s with pwr := { seen with vwarn := true, warnArmed := false } }) ∧
      (p.warnArmed = false ∨ p.warn ≤ mv → exec (.vcoreWarning mv) s = .next s) ∧
      (p.vcEn = true → p.warn + 10 < mv →
        exec (.vcoreWarningRearm mv) s = .next { s with pwr := { seen with warnArmed := true } }) ∧
      (p.vcEn = false ∨ mv ≤ p.warn + 10 → exec (.vcoreWarningRearm mv) s = .next s) ∧
      (p.vcEn = true → mv ≤ p.target + 10 → p.target ≤ mv + 10 →
        exec (.vcoreSettled mv) s = .next { s with pwr := seen }) ∧
      (p.vcEn = false ∨ p.target + 10 < mv ∨ mv + 10 < p.target → exec (.vcoreSettled mv) s = .next s)) ∧
    exec .vauxWarning s = .next { s with pwr :=
      if p.auxArmed = true then { p with auxwarn := true, auxArmed := false } else p } ∧
    (∀ mv x, 1620 ≤ mv → exec (.vauxReset (mv, x)) s = .next { s with pwr :=
      { p with auxArmed := p.auxArmed || decide (1700 < mv) } }) ∧
    (∀ b, (s.pins.released = true →
        exec (.vccioWarning b) s = .next (s.setPinBank b { s.pinBank b with vccioWarn := true })) ∧
      (s.pins.released = false → exec (.vccioWarning b) s = .next s) ∧
      exec (.vccioWarningEnd b) s = .next (s.setPinBank b { s.pinBank b with vccioWarn := false })) ∧
    (∀ a b c d e : Int, let m := max a (max b (max c (max d e)))
      (s.cfg.boot = .off → exec (.tempReading a b c d e) s = .next s) ∧
      (s.cfg.boot ≠ .off →
        (p.hot = false ∨ m < 110 ∨ s.cfg.boot = .thermal →
          exec (.tempReading a b c d e) s = .next { s with pwr := { p with
            tj := m, tjMax := max p.tjMax m, therm := p.therm || decide ((p.tlim : Int) < m)
            thermHold := decide ((p.tlim : Int) < m) || (p.thermHold && decide ((p.tlim : Int) - p.hyst < m))
            hot := decide (110 ≤ m) } }) ∧
        (p.hot = true → 110 ≤ m → s.cfg.boot ≠ .thermal →
          ∃ t, exec (.tempReading a b c d e) s = .next t ∧ t.cfg.boot = .thermal ∧ t.quince.stopped = true ∧
            t.pwr.lastReset = 4 ∧ t.pwr.vcEn = false ∧ t.pins.released = false))) ∧
    (∀ tj x,
      (tj ≤ 100 → s.cfg.boot = .thermal →
        ∃ t, exec (.thermalRestart tj x) s = .next t ∧ t.cfg.boot = .reset ∧ t.quince.stopped = false ∧
          t.pwr.lastReset = 4 ∧ t.pwr.tj = tj) ∧
      (100 < tj ∨ s.cfg.boot ≠ .thermal → exec (.thermalRestart tj x) s = .next s)) ∧
    (∀ v : Word, let m := v.extractLsb' 0 2
      (m = 3 ∨ (m ≠ 0 ∧ p.pmbusOk = false) →
        exec (.pwrModeWrite v) s = .next { s with pwr := { p with cfgRej := true } }) ∧
      (m ≠ 3 → m = 0 ∨ p.pmbusOk = true → exec (.pwrModeWrite v) s = .next { s with pwr := { p with
        nextMode := some m, statIe := v.getLsbD 2, win := v.extractLsb' 4 4, upStep := v.extractLsb' 8 4
        hold := v.extractLsb' 12 4 } })) ∧
    (∀ v : Word,
      let lo := (v.extractLsb' 0 10).toNat
      let hi := (v.extractLsb' 16 10).toNat
      (hi < lo → exec (.pwrLimitWrite .vlim v) s = .next { s with pwr := { p with cfgRej := true } }) ∧
      (lo ≤ hi → exec (.pwrLimitWrite .vlim v) s = .next { s with pwr := { p with
        vmin := max 550 (min 950 lo), vmax := max 550 (min 950 hi) } }) ∧
      (let w := max 450 (min 600 lo) / 5 * 5
       (w < p.trip + 20 → exec (.pwrLimitWrite .warn v) s = .next { s with pwr := { p with cfgRej := true } }) ∧
       (p.trip + 20 ≤ w → exec (.pwrLimitWrite .warn v) s = .next { s with pwr := { p with
         warn := w, warnDg := min 100 (v.extractLsb' 16 7).toNat } })) ∧
      (let w := max 420 (min 500 lo) / 5 * 5
       (p.warn < w + 20 → exec (.pwrLimitWrite .trip v) s = .next { s with pwr := { p with cfgRej := true } }) ∧
       (w + 20 ≤ p.warn → exec (.pwrLimitWrite .trip v) s = .next { s with pwr := { p with trip := w } }))) ∧
    exec .pnowMaxClr s = .next { s with pwr := { p with pnowMax := p.pnow } } ∧
    exec .tempMaxClr s = .next { s with pwr := { p with tjMax := p.tj } }

/-- UART, SPI and I2C (R328–R330): bytes leave in the order in which they were written, arrive into a FIFO of
16, and overflow and framing errors are flagged; a read gives up the oldest byte, to the load of Quince that waits
for it if there is one; the actions of an I2C command are carried out one by one, and
it completes once none is left. The order start, write, read, stop is the model's choice (log entry 27). -/
def Obligations.SerialPorts : Prop :=
  (∀ (n : Fin 2) (s : State),
    let u := s.uart n
    let z := s.spi n
    (∀ v : Word, let b := v.extractLsb' 0 8
      (u.shift.isSome = true ∨ u.ctrl.getLsbD 0 = false → u.tx.length < 16 →
        exec (.uartDataWrite n v) s = .next (s.setUart n { u with tx := u.tx ++ [b] })) ∧
      (u.shift.isSome = true ∨ u.ctrl.getLsbD 0 = false → 16 ≤ u.tx.length → exec (.uartDataWrite n v) s = .next (s.setUart n u)) ∧
      (u.shift = none → u.ctrl.getLsbD 0 = true → u.tx = [] →
        exec (.uartDataWrite n v) s = .next (s.setUart n { u with shift := some b })) ∧
      (z.shift.isSome = true ∨ z.ctrl.getLsbD 0 = false → z.tx.length < 16 →
        exec (.spiDataWrite n v) s = .next (s.setSpi n { z with tx := z.tx ++ [b] })) ∧
      (z.shift = none → z.ctrl.getLsbD 0 = true → z.tx = [] →
        exec (.spiDataWrite n v) s = .next (s.setSpi n { z with shift := some b }))) ∧
    (let waits := fun (a : Nat) (l : Load) => (s.core 128).load = some l ∧ l.reply = none ∧
       target 128 l.addr = .reg a ∧ s.storeWaits 128 l.addr = false
     let given := fun (l : Load) (b : Byte) (s : State) => s.setCore 128 { s.core 128 with
       load := some { l with reply := some (.data (b.setWidth 32)) } }
     ((∀ l, ¬waits (0x080B0000 + 0x100 * n) l) →
       exec (.uartDataRead n) s = .next (s.setUart n { u with lastRx := u.rx.headD 0, rx := u.rx.drop 1 })) ∧
     (∀ l, waits (0x080B0000 + 0x100 * n) l → exec (.uartDataRead n) s =
       .next (given l (u.rx.headD 0) (s.setUart n { u with lastRx := u.rx.headD 0, rx := u.rx.drop 1 }))) ∧
     ((∀ l, ¬waits (0x080B0200 + 0x100 * n) l) →
       exec (.spiDataRead n) s = .next (s.setSpi n { z with rx := z.rx.drop 1 })) ∧
     (∀ l, waits (0x080B0200 + 0x100 * n) l → exec (.spiDataRead n) s =
       .next (given l (z.rx.headD 0) (s.setSpi n { z with rx := z.rx.drop 1 })))) ∧
    (∀ b, u.ctrl.getLsbD 0 = true →
      (u.rx.length < 16 → exec (.uartReceive n b false false) s = .next (s.setUart n { u with rx := u.rx ++ [b] })) ∧
      (16 ≤ u.rx.length → exec (.uartReceive n b false false) s = .next (s.setUart n { u with rxOvf := true })) ∧
      ∃ t, exec (.uartReceive n b true false) s = .next t ∧ (t.uart n).frameErr = true) ∧
    (∀ b, u.ctrl.getLsbD 0 = false → exec (.uartReceive n b false false) s = .next (s.setUart n u)) ∧
    (∀ b, u.shift = some b → u.ctrl.getLsbD 0 = true →
      (u.tx = [] → exec (.uartTransmitDone n) s = .next (s.setUart n { u with shift := none })) ∧
      ∀ d r, u.tx = d :: r → exec (.uartTransmitDone n) s = .next (s.setUart n { u with shift := some d, tx := r })) ∧
    (∀ b m, z.shift = some b → z.ctrl.getLsbD 0 = true → z.rx.length < 16 →
      (z.tx = [] → exec (.spiByteDone n m) s = .next (s.setSpi n { z with shift := none, rx := z.rx ++ [m] })) ∧
      ∀ d r, z.tx = d :: r → exec (.spiByteDone n m) s = .next (s.setSpi n { z with
        shift := some d, tx := r, rx := z.rx ++ [m] })) ∧
    (∀ b m, z.shift = some b → z.tx = [] → 16 ≤ z.rx.length →
      exec (.spiByteDone n m) s = .next (s.setSpi n { z with shift := none, rxOvf := true }))) ∧
  (∀ (n : Fin 2) (s : State),
    let u := s.i2c n
    let p := u.pend
    (p.start = true → exec (.i2cStart n) s = .next (s.setI2c n { u with pend := { p with start := false } })) ∧
    (∀ a, p.start = false → p.write = true →
      exec (.i2cWrite n a) s = .next (s.setI2c n { u with pend := { p with write := false }, ackRx := a })) ∧
    (∀ b, p.start = false → p.write = false → p.read = true →
      exec (.i2cRead n b) s = .next (s.setI2c n { u with pend := { p with read := false }, data := b })) ∧
    (p.start = false → p.write = false → p.read = false → p.stop = true →
      exec (.i2cStop n) s = .next (s.setI2c n { u with pend := { p with stop := false } })) ∧
    (u.busy = true → p.start = false → p.write = false → p.read = false → p.stop = false →
      exec (.i2cDone n false) s = .next (s.setI2c n { u with busy := false, done := true })) ∧
    (u.busy = true → exec (.i2cDone n true) s = .next (s.setI2c n { u with
      busy := false, arbLost := true, pend := { start := false, stop := false, write := false, read := false } })))

/-- The timers and QWDOG (R331, R332): a load takes effect at the next HK edge, an expiry reloads a periodic
timer and stops at 0 otherwise, only the first write of en starts QWDOG, half of its limit sets early, a wrong kick
acts as an expiry, and each action. TIMER_EXPIRY here is all the HK cycles up to the one in which the count reaches
zero (log entry 21). -/
def Obligations.TimersAndQwdog : Prop :=
  ∀ (s : State),
    let q := s.hk.qwdog
    let limit := if q.limit = 0 then 1 else q.limit.toNat
    let anew := { s with hk := { s.hk with qwdog := { q with running := limit, remaining := limit, frac := 0 } } }
    let straps : Straps := { bootsel := s.cfg.bootsel, pullsel := s.pins.pullsel }
    (∀ (n : Fin 4) (v : Word),
      exec (.timerLoadWrite n v) s = .next (s.setTimer n { s.timer n with load := v, nextCount := some v })) ∧
    (∀ (n : Fin 4), let x := s.timer n
      let again := if x.periodic then x.load else 0
      (x.en = true → x.nextCount = none → exec (.timerExpiry n) s = .next (s.setTimer n
        (if x.count = 0 then x else { x with expired := true, count := again }))) ∧
      (∀ v, x.en = true → x.nextCount = some v → exec (.timerExpiry n) s = .next (s.setTimer n
        (if x.count = 1 then { x with expired := true, nextCount := none, count := v }
         else if v = 0 then { x with nextCount := none, count := 0 }
         else { x with expired := true, nextCount := none, count := again }))) ∧
      (x.en = false → exec (.timerExpiry n) s = .next s)) ∧
    (∀ v : Word, ∃ t, exec (.qwdogCtrlWrite v) s = .next t ∧ t = { s with hk := { s.hk with qwdog := t.hk.qwdog } } ∧
      let w := t.hk.qwdog
      w.en = (q.en || v.getLsbD 0) ∧ w.limit = v.extractLsb' 16 16 ∧
      w.action = (if v.extractLsb' 1 2 = 3 then q.action else v.extractLsb' 1 2) ∧
      w.fired = q.fired ∧ w.early = q.early ∧
      (q.en = true ∨ v.getLsbD 0 = false → w.remaining = q.remaining) ∧
      (q.en = false → v.getLsbD 0 = true →
        w.remaining = (if v.extractLsb' 16 16 = 0 then 1 else (v.extractLsb' 16 16).toNat) ∧
          w.running = w.remaining ∧ w.frac = 0)) ∧
    (q.en = false → ∀ v, exec (.qwdogKick v) s = .next s) ∧
    (q.en = true → exec (.qwdogKick 0xC0B1#32) s = .next anew ∧
      ∀ v, v ≠ 0xC0B1#32 → exec (.qwdogKick v) s = .next (s.qwdogFire straps)) ∧
    (q.en = true → s.quince.dbgHalted = false →
      (let ms := 25000 * 2 ^ 20
       let half := q.running * ms / 2
       exec .qwdogEarly s = .next (if (q.running - q.remaining) * ms + q.frac < half then
         { s with hk := { s.hk with
           qwdog := { q with early := true, remaining := q.running - half / ms, frac := half % ms } } } else s)) ∧
      (∀ x, exec (.qwdogExpiry x) s = .next (s.qwdogFire x))) ∧
    (q.en = false ∨ s.quince.dbgHalted = true →
      exec .qwdogEarly s = .next s ∧ ∀ x, exec (.qwdogExpiry x) s = .next s) ∧
    (∀ x, let t := s.qwdogFire x
      (q.action = 0 → t.hk.qwdog.fired = true ∧ t.hk.qwdog.remaining = limit ∧ t.hk.qwdog.en = q.en ∧
        (t.core 128).regs = [] ∧ t.quince.ie = false ∧ t.quince.lvl = 0 ∧ t.quince.ctxs = [] ∧
        (t.core 128).pc = (if s.cfg.state = .done ∧ s.cfg.hasQuince = true then 0x0F000000#32 else 0x0FFF8000#32) ∧
        ((∀ a b c, (s.req 128).phase ≠ .answer a b c) → t.tiles = s.tiles ∧ t.mem = s.mem)) ∧
      (q.action = 1 → t = (({ anew with hk := { anew.hk with
        qwdog := { anew.hk.qwdog with fired := true } } } : State).reload)) ∧
      (q.action ≠ 0 → q.action ≠ 1 → t.pwr.lastReset = 5 ∧ t.cfg.boot = .reset ∧ t.hk = Hk.init))

/-- Register words, written and read (R4, R5, R6, R7, R8, R94, R153, R158, chapter 15). A write that is not aligned,
not permitted or to no register changes nothing; a w1c bit clears, a field is set, and read-only fields are
ignored, shown for a register of every block. What a load of a register returns (LOAD_RESPONSE, LoadReturns, and
the debug port, DebugPort): an rw field reads as it was written, a bit that starts an action reads 1 until the
action completes, a write-only register and an undefined offset read 0, and the status fields show the state.
TILE_G0 to TILE_G15 are reached only while the engine is HALTED, FAULTED or SYS. -/
def Obligations.RegisterWrites : Prop :=
  ∀ (s : State) (v : Word),
    (∀ (c : CoreId) (a : Word), a.toNat % 4 ≠ 0 → exec (.registerWrite c a v) s = .next s) ∧
    (∀ (c : CoreId) (a : Word), s.mayWrite c (target c a) = false → exec (.registerWrite c a v) s = .next s) ∧
    (∀ (c : CoreId) (a : Word), a.toNat < 0x01800000 → exec (.registerWrite c a v) s = .next s) ∧
    (∀ c : CoreId, c.val < 128 → exec (.registerWrite c 0x08000018#32 v) s = .next s) ∧
    exec (.registerWrite 128 0x08000018#32 v) s = .next { s with dev := { s.dev with
      ewBlocks := v.extractLsb' 0 12, ewTiles := v.getLsbD 12 } } ∧
    (∀ c : CoreId, c.val = 128 ∨ (∀ i, i < 12 → s.dev.ewBlocks.getLsbD i = true) →
      exec (.registerWrite c 0x08010014#32 v) s = .next { s with cfg := { s.cfg with wdogMs := v.extractLsb' 0 16 } } ∧
      exec (.registerWrite c 0x08020004#32 v) s = .next { s with pwr := { s.pwr with
        budget := max 15 (min 4000 (v.extractLsb' 0 12).toNat) } } ∧
      exec (.registerWrite c 0x08030008#32 v) s = .next { s with clk := { s.clk with
        unlock := s.clk.unlock && !v.getLsbD 5, cfgRej := s.clk.cfgRej && !v.getLsbD 6
        xinFail := s.clk.xinFail && !v.getLsbD 7 } } ∧
      exec (.registerWrite c 0x08038018#32 v) s = .next (s.setPacer 0 { s.pacer 0 with
        deficit := (s.pacer 0).deficit && !v.getLsbD 1, debtOvf := (s.pacer 0).debtOvf && !v.getLsbD 2
        cfgRej := (s.pacer 0).cfgRej && !v.getLsbD 4 }) ∧
      exec (.registerWrite c 0x08042004#32 v) s = .next (s.setPinBank 0 { s.pinBank 0 with mask := v }) ∧
      exec (.registerWrite c 0x08050004#32 v) s = .next (s.setSeam 0 { s.seam 0 with
        epochErr := (s.seam 0).epochErr && !v.getLsbD 10, overrun := (s.seam 0).overrun && !v.getLsbD 11
        underrun := (s.seam 0).underrun && !v.getLsbD 12, miss := (s.seam 0).miss && !v.getLsbD 13
        cfgRej := (s.seam 0).cfgRej && !v.getLsbD 16 }) ∧
      exec (.registerWrite c 0x08060004#32 v) s = .next { s with flt := { s.flt with
        trapFence := v.getLsbD 0, wdogFence := v.getLsbD 1, adoptFixed := v.getLsbD 2
        adoptEng := v.extractLsb' 3 8 } } ∧
      exec (.registerWrite c 0x08070014#32 v) s = .next { s with bist := { s.bist with
        policyLocal := v.getLsbD 0, policyAnalog := v.getLsbD 1 } } ∧
      exec (.registerWrite c 0x08090000#32 v) s = .next { s with lace := { s.lace with
        hold := v.getLsbD 0, reroute := v.getLsbD 1, adoptEv := v.extractLsb' 2 4 } } ∧
      exec (.registerWrite c 0x080A0144#32 v) s = .next { s with intc := { s.intc with thr := v.extractLsb' 0 4 } } ∧
      exec (.registerWrite c 0x080B0600#32 v) s = .next (s.setTimer 0 { s.timer 0 with
        en := v.getLsbD 0, periodic := v.getLsbD 1, ie := v.getLsbD 2 })) ∧
    exec (.registerWrite 128 0x0810001C#32 v) s = .next (s.setTile 0 { s.tile 0 with
      evt := (s.tile 0).evt &&& ~~~(v.extractLsb' 0 16) }) ∧
    ((s.core 0).epcAt ≠ some s.time →
      exec (.registerWrite 128 0x08100024#32 v) s = .next (s.setCore 0 { s.core 0 with epc := v &&& 0xFFFFFFFC#32 })) ∧
    ((s.core 0).epcAt = some s.time → exec (.registerWrite 128 0x08100024#32 v) s = .next s) ∧
    (∀ c : CoreId, c.val < 128 → v.getLsbD 2 = false →
      exec (.registerWrite c 0x01808000#32 v) s = .next (s.setTile c { s.tile c with
        haltIe := v.getLsbD 4, autostart := v.getLsbD 6, tapEv := v.extractLsb' 16 16 })) ∧
    (∀ m : Fin 16,
      let o := 0x80 + 4 * m.val
      let reached := (s.core 0).state = .halted ∨ (s.core 0).state = .faulted ∨ (s.core 0).state = .sys
      (reached → word (s.readTile 0 o) = s.regIn 0 0 m ∧
        ∃ t, exec (.registerWrite 128 (word (0x08100000 + o)) v) s = .next t ∧ t = { s with cores := t.cores } ∧
          (∀ k, k ≠ 0 → t.core k = s.core k) ∧ t.core 0 = { s.core 0 with regs := (t.core 0).regs } ∧
          ∀ b n, n < 16 → t.regIn 0 b n = if b = 0 ∧ n = m.val ∧ n ≠ 0 then v else s.regIn 0 b n) ∧
      (¬reached → s.readTile 0 o = 0 ∧ exec (.registerWrite 128 (word (0x08100000 + o)) v) s = .next s)) ∧
    (∀ p ∈ [(0x08000014, 0xFFFF), (0x08000018, 0x1FFF), (0x08010020, 0xFFFFFFFF), (0x08010024, 0x0FFFFFFF),
        (0x08010028, 0xF), (0x08038004, 0xFFFFFFFF), (0x08042004, 0xFFFFFFFF), (0x08060004, 0x7FF),
        (0x08060008, 0xFFFF), (0x0807000C, 0xFFFFFFFF), (0x08070014, 3), (0x08090000, 0x3F),
        (0x080B000C, 0xFFFF), (0x080B0600, 7), (0x080B0604, 0xFFFFFFFF)],
      ∀ c, ∃ t, exec (.registerWrite 128 (word p.1) v) s = .next t ∧ t.regValue c p.1 = v &&& word p.2) ∧
    (∀ (c : CoreId) (o : Nat), o < 0x10000 → o % 4 = 0 →
      ∀ p ∈ [(0x08000000, 0x38), (0x08010000, 0x8C), (0x08020000, 0x44), (0x08060000, 0x500), (0x08070000, 0x174),
        (0x08090000, 0x200), (0x080A0000, 0x14C), (0x080B0000, 0x70C)], p.2 ≤ o →
      s.regValue c (p.1 + o) = 0 ∧ exec (.registerWrite c (word (p.1 + o)) v) s = .next s) ∧
    (∀ c, c < 129 →
      let r := s.regValue c
      let seam := s.seam 0
      let pace := s.pacer 0
      let tile := BitVec.ofNat 32 (s.readTile 0 0x00)
      r 0x080B0704 = 0#32 ∧
      tile.getLsbD 0 = false ∧ tile.getLsbD 1 = false ∧ tile.getLsbD 2 = (s.core 0).haltPend ∧
      tile.getLsbD 3 = (s.core 0).stepping ∧
      (r 0x08030000).getLsbD 13 = s.clk.relockAct ∧ (r 0x08038000).getLsbD 6 = pace.accClr ∧
      ((r 0x0805000C).getLsbD 4 = true ↔
        seam.grpRst = true ∧ ∃ k, k < 256 ∧ (s.seam k).group = seam.group ∧ (s.seam k).state = .reset) ∧
      ((r 0x0801002C).getLsbD 0 = true ↔ ∃ q, (RegionCmd.load, q) ∈ s.cfg.cmds) ∧
      ((r 0x0801002C).getLsbD 2 = true ↔ ∃ q, (RegionCmd.release, q) ∈ s.cfg.cmds) ∧
      ((r 0x0801002C).getLsbD 3 = true ↔ ∃ q, (RegionCmd.clear, q) ∈ s.cfg.cmds) ∧
      r 0x08000000 = 0x4E510128#32 ∧
      (r 0x0800000C).getLsbD 3 = s.cfg.doneBall ∧ (r 0x08010000).getLsbD 3 = s.cfg.golden ∧
      (s.cfg.state = .done → (r 0x08010000).extractLsb' 0 3 = 4) ∧
      (s.cfg.state = .failed → (r 0x08010000).extractLsb' 0 3 = 5) ∧
      (r 0x0802000C).extractLsb' 0 10 = BitVec.ofNat 10 s.pwr.target ∧
      (r 0x08020020).getLsbD 6 = s.pwr.vwarn ∧ (r 0x08030008).getLsbD 0 = s.clk.rootLock ∧
      r 0x0803800C = BitVec.ofNat 32 pace.count ∧
      ((s.core c).latchOf 0 = none → r 0x08038010 = BitVec.ofNat 32 (pace.count / 2 ^ 32)) ∧
      (∀ w, (s.core c).latchOf 0 = some w → r 0x08038010 = w) ∧
      ((s.pin 0).sw.cycle = 0 → r 0x08040000 = (s.pin 0).cfg) ∧ (r 0x08041000).getLsbD 11 = (s.pin 0).pend ∧
      (r 0x08043100).getLsbD 0 = (s.pin 0).sync2 ∧
      (seam.state = .faultHold → (r 0x08050004).extractLsb' 0 3 = 4) ∧
      (seam.state = .run → (r 0x08050004).extractLsb' 0 3 = if s.ecRuns (sgEc seam.cfg) then 2 else 3) ∧
      (r 0x08060000).getLsbD 0 = s.flt.new ∧ (r 0x08080000).getLsbD 16 = decide (2 ≤ s.pert.key) ∧
      (r 0x080A0100).getLsbD 0 = s.pwr.vwarn ∧ r 0x080B0608 = (s.timer 0).count ∧
      (s.hk.qwdog.remaining < 0x10000 →
        (r 0x080B0708).extractLsb' 0 16 = BitVec.ofNat 16 s.hk.qwdog.remaining ∧
        (r 0x080B0708).getLsbD 16 = s.hk.qwdog.early ∧ (r 0x080B0708).getLsbD 17 = s.hk.qwdog.fired))

/-- Awl's tests (R372–R381): a test on demand starts or is refused, is stopped, takes one step that leaves
memory as it was, and ends with a result; a step that an access meets runs again after the others; a background
pass starts when its target serves it, and one that fails fences its bank. Every command completes in every
state; the clauses name the conditions under which it has an effect, and where it has none. -/
def Obligations.AwlTests : Prop :=
  ∀ (s : State),
    let b := s.bist
    let test := b.test.toNat
    let tgt := b.target.toNat
    let known := ((test = 0x01 ∨ test = 0x02) ∧ tgt = 255) ∨
      ((test = 0x10 ∨ test = 0x11 ∨ test = 0x12) ∧ tgt < 128) ∨ (test = 0x13 ∧ tgt = 128)
    let busy := test = 0x10 ∧ (s.tile tgt).fenced = false ∧ s.regionState tgt ≠ .held ∧ s.regionState tgt ≠ .aborted
    let refused := b.demand.isSome = true ∨ ¬known ∨ busy
    let begun : AwlRun := { AwlRun.start test tgt with
      cut := decide (0x10 ≤ test ∧ tgt < 128) && (s.tile tgt).power.off }
    (refused → exec .bistStart s = .next { s with bist := { b with rej := true } }) ∧
    (¬refused → exec .bistStart s = .next { s with bist := { b with
      demand := some begun, state := 1, complete := false, isMatch := false, result := 0, steps := 0
      planned := if test = 0x01 then 29 else if test = 0x02 then 17 else if test = 0x10 then 1024
        else if test = 0x11 then 512 else if test = 0x12 then 64 else 1024
      ref := if b.refUser then b.ref else (s.refOf test tgt).getD 0 } }) ∧
    (exec .bistStop s = .next { s with bist := { b with
      demand := b.demand.map (fun r => { r with cut := true }) } }) ∧
    (∀ g,
      let free := (match g with
        | .bank k => (s.tile k).power = .on ∧ (s.tile k).fenced = false ∧ (s.tile k).bankFenced = false ∧
            (s.tile k).clearing = false ∧ s.regionState k ≠ .loading
        | .localMem k => (s.tile k).power = .on ∧ (s.tile k).clearing = false ∧ s.regionState k ≠ .loading
        | _ => True)
      let enabled := b.bgEn.getLsbD (match g with | .bank _ => 0 | .localMem _ => 1 | .qsram => 2 | .analog => 3) = true
      (enabled → free → s.runOf (.background g) = none →
        ∃ t, exec (.bistPassStart g) s = .next t ∧ t = { s with bist := t.bist } ∧
          t.runOf (.background g) = some (bgRun g) ∧ t.bist.demand = b.demand) ∧
      (¬enabled ∨ ¬free ∨ s.runOf (.background g) ≠ none → exec (.bistPassStart g) s = .next s)) ∧
    (∀ r (v c : BitVec 16) skip, b.demand = some r → r.cut = false → r.steps ≠ r.planned →
      let step := fun (n : Nat) => ({ s with bist := { b with demand := some (r.fold n), steps := r.steps + 1 } } : State)
      let again := ({ s with bist := { b with demand := some r.abort } } : State)
      (r.test = 0x10 → ∀ conflict, exec (.bistWindow .demand v c skip conflict) s = .next (step v.toNat)) ∧
      (r.test = 0x11 → (∀ i, i < 64 → s.eccAt (bankWord r.target + 64 * r.at + i) = none) →
        exec (.bistWindow .demand v c skip false) s = .next (step v.toNat)) ∧
      (r.test = 0x11 ∨ r.test = 0x13 ∨ (r.test = 0x12 ∧ b.policyLocal = false) →
        exec (.bistWindow .demand v c skip true) s = .next again) ∧
      (r.test = 0x12 → b.policyLocal = true →
        (∀ i, i < 64 → s.eccAt (localWord r.target + 64 * r.at + i) = none) →
        exec (.bistWindow .demand v c skip true) s = .next (step v.toNat)) ∧
      (r.test = 0x02 → 5 ≤ r.at →
        let ok := v.getLsbD 0 || (skip && decide (17 ≤ r.at))
        exec (.bistWindow .demand v c skip false) s = .next { s with bist := { b with
          demand := some (r.fold (b2n ok)), steps := r.steps + 1
          log := SMap.write (fun _ => (0 : BitVec 18)) b.log r.at
            (BitVec.ofNat 18 (c.toNat + (if ok then 2 ^ 16 else 0) +
              (if skip = true ∧ 17 ≤ r.at then 2 ^ 17 else 0))) } }) ∧
      (r.test = 0x02 → r.at = 0 → s.clk.rootLock = false → ∀ conflict,
        exec (.bistWindow .demand v c skip conflict) s = .next s)) ∧
    (∀ r v c skip conflict, b.demand = some r → r.cut = true ∨ r.steps = r.planned →
      exec (.bistWindow .demand v c skip conflict) s = .next s) ∧
    (∀ k v c skip conflict, s.runOf k = none →
      exec (.bistWindow k v c skip conflict) s = .next s ∧ exec (.bistTestEnd k) s = .next s) ∧
    (∀ k r, s.runOf k = some r → r.cut = false → r.steps ≠ r.planned → exec (.bistTestEnd k) s = .next s) ∧
    (∀ r, b.demand = some r → r.cut = true ∨ r.steps = r.planned →
      ∃ t, exec (.bistTestEnd .demand) s = .next t ∧ t = { s with bist := t.bist, flt := t.flt } ∧
        t.bist.demand = none ∧ t.bist.done = true ∧ t.bist.state = 2 ∧ t.bist.sig = r.signature ∧
        t.bist.complete = decide (r.steps = r.planned) ∧ t.bist.steps = r.steps ∧ t.bist.ref = b.ref ∧
        (r.steps ≠ r.planned → t.bist.result = 3) ∧
        (r.steps = r.planned → b.refUser = true → t.bist.result = if b.ref = r.signature then 1 else 2) ∧
        (r.steps = r.planned → b.refUser = false → s.refOf r.test r.target = none → t.bist.result = 2) ∧
        (t.bist.result = 1 → t.flt = s.flt) ∧
        (t.bist.result ≠ 1 → ∃ q, t.flt = { s.flt with inbox := s.flt.inbox ++ [q] } ∧ q.code = 0x0C ∧
          q.detail = word (r.test + r.target * 2 ^ 8 + t.bist.result * 2 ^ 16))) ∧
    (∀ (t' : TileId) r, s.runOf (.startup t') = some r → r.cut = false → r.steps = r.planned →
      s.refOf r.test r.target = some r.signature → s.cfg.tests = [(t'.val, r.test)] →
      ∃ t, exec (.bistTestEnd (.startup t')) s = .next t ∧ t.cfg.tests = [] ∧ t.cfg.boot = .sequence ∧
        t.cfg.status = 4 ∧ t.bist.result = 1) ∧
    (∀ (t' : TileId) r, s.runOf (.background (.bank t')) = some r → r.cut = false → r.steps = r.planned →
      (s.refOf r.test r.target = some r.signature →
        ∃ t, exec (.bistTestEnd (.background (.bank t'))) s = .next t ∧ t = { s with bist := t.bist } ∧
          t.runOf (.background (.bank t')) = none) ∧
      (s.refOf r.test r.target ≠ some r.signature → (s.tile t').bankFenced = false →
        ∃ t q, exec (.bistTestEnd (.background (.bank t'))) s = .next t ∧ (t.tile t').bankFenced = true ∧
          t.bist.bgFail = true ∧ t.dev.svcBank = true ∧
          t.flt = { s.flt with inbox := s.flt.inbox ++ [q] } ∧ q.code = 0x0C ∧ q.action = 3))

/-- PERT (R383, R384): the key sequence unlocks it, any other write of the key locks it and ends what it does, and
its arms act only while it is open and enabled; every command completes in every state. Whether the parts that
R405 fuses lock PERT is `Config.lockFuse`, a free value, so a witness holds for the parts that do not. That a write
to an undefined offset between the two key writes breaks the sequence is the model's choice (log entry 60). -/
def Obligations.Perturbations : Prop :=
  ∀ (s : State),
    let p := s.pert
    let isOpen := 2 ≤ p.key ∧ s.cfg.pertOk = true ∧ s.cfg.sessionLock = false ∧ Config.lockFuse = false
    (∀ v : Word,
      let low := v.extractLsb' 0 16
      (low = 0x5EA1#16 → exec (.pertKeyWrite v) s = .next { s with pert := { p with
        key := if p.key < 2 then 1 else 3 } }) ∧
      (low = 0xA15E#16 → p.key = 1 ∨ p.key = 3 →
        exec (.pertKeyWrite v) s = .next { s with pert := { p with key := 2 } }) ∧
      (low ≠ 0x5EA1#16 → low ≠ 0xA15E#16 ∨ (p.key ≠ 1 ∧ p.key ≠ 3) →
        ∃ t, exec (.pertKeyWrite v) s = .next t ∧ t = { s with pert := t.pert, wires := t.wires } ∧
          t.pert = { p with key := 0, en := 0, laceArmed := none } ∧ t.wires.bpHeld = [] ∧
          ∀ k ∈ s.wires.bpHeld, (t.node k).ack = true)) ∧
    (∀ v, exec (.registerWrite 128 0x0808002C#32 v) s = .next { s with pert := { p with
      key := if p.key = 1 then 0 else if p.key = 3 then 2 else p.key } }) ∧
    (isOpen → p.en.getLsbD 3 = true → exec .pertLaceArm s = .next { s with pert := { p with
      laceArmed := some ((p.lace.extractLsb' 0 2).toNat, max 1 (p.lace.extractLsb' 4 4).toNat) } }) ∧
    (isOpen → p.en.getLsbD 4 = true → ∀ wa, p.eccWord = some wa →
      (s.eccAt wa = none → exec .pertEccArm s = .next (s.setEcc wa
        (some (if p.ecc.getLsbD 9 then .double true true else .single (some false))))) ∧
      (s.eccAt wa = some (.single (some false)) → p.ecc.getLsbD 9 = false →
        exec .pertEccArm s = .next (s.setEcc wa none)) ∧
      (∀ i, s.eccAt wa = some (.double i true) → p.ecc.getLsbD 9 = true →
        exec .pertEccArm s = .next (s.setEcc wa none)) ∧
      (s.eccAt wa = some .poison → ∃ t, exec .pertEccArm s = .next t ∧ t.eccAt wa = some .poison)) ∧
    (p.eccWord = none → exec .pertEccArm s = .next s) ∧
    (isOpen → p.en.getLsbD 5 = true →
      exec .pertSupplyVaux s = .next { s with pwr := { s.pwr with auxwarn := true } } ∧
      exec .pertSupplyVcore s = .next (if s.pwr.warnArmed = true then
        { s with pwr := { s.pwr with vwarn := true } } else s)) ∧
    (¬isOpen → exec .pertLaceArm s = .next s ∧ exec .pertEccArm s = .next s ∧
      exec .pertSupplyVaux s = .next s ∧ exec .pertSupplyVcore s = .next s) ∧
    (p.en.getLsbD 3 = false → exec .pertLaceArm s = .next s) ∧
    (p.en.getLsbD 4 = false → exec .pertEccArm s = .next s) ∧
    (p.en.getLsbD 5 = false → exec .pertSupplyVaux s = .next s ∧ exec .pertSupplyVcore s = .next s) ∧
    (s.wires.bpHeld = [] → exec .pertBpHoldExpiry s = .next s) ∧
    (∀ k r, s.wires.bpHeld = k :: r → ∃ t, exec .pertBpHoldExpiry s = .next t ∧ t = { s with wires := t.wires } ∧
      t.wires.bpHeld = (k :: r).filter (fun n => n / 16 ≠ k / 16) ∧
      ∀ j, t.node j = if j ∈ k :: r ∧ j / 16 = k / 16 then { s.node j with ack := true, full := false } else s.node j)

/-- Device resets (R6, R247, R254, R256, R334, R339, R341, R351, R357, R366, R373, R397): after each, every
register but those named holds its reset value, PIN_IN too; the log outlives every reset but power-on reset, and
the health totals all but power-on reset and RESET_N, which is recognised in a thermal trip too; a test on demand
is cut short with a record. -/
def Obligations.DeviceResets : Prop :=
  ∀ (s : State) (x : Straps),
    let after := fun (cause : Nat) (t : State) =>
      t = { State.reset with
        pending := s.pending, freeCtr := s.freeCtr, pins := t.pins, flt := t.flt, dev := t.dev, jtag := t.jtag
        cfg := { Cfg.init with bootsel := x.bootsel, pullsel := x.pullsel }
        pwr := { Pwr.init with lastReset := cause } } ∧
      t.pins.released = false ∧ t.pins.pullsel = x.pullsel ∧
      (∀ p, (t.pin p).drive = none ∧ (t.pin p).cfg = 0 ∧ (t.pin p).pend = false ∧ (t.pin p).sync2 = false)
    let noTest := s.bist.demand = none ∧ s.bist.background = []
    let kept := fun (t : State) => t.jtag = s.jtag ∧
      (∀ r, s.bist.demand = some r → r.steps ≠ r.planned → s.bist.background = [] → s.flt.inbox = [] →
        t.flt.head = (s.flt.head + 1) % 64 ∧
        (SMap.read Record.zero t.flt.log s.flt.head).w1.extractLsb' 0 8 = 0x0C#8 ∧
        (SMap.read Record.zero t.flt.log s.flt.head).w3 = word (r.test + r.target * 2 ^ 8 + 3 * 2 ^ 16)) ∧
      (s.flt.inbox = [] → noTest → t.flt = { Flt.init with
        log := s.flt.log, head := s.flt.head, wrapped := s.flt.wrapped, count := s.flt.count, seq := s.flt.seq })
    let health := fun (t : State) => s.bist.background = [] → t.dev = { Dev.init with
      svcTiles := s.dev.svcTiles, svcCfg := s.dev.svcCfg, svcAnalog := s.dev.svcAnalog, svcBank := s.dev.svcBank
      svcBoot := s.dev.svcBoot, tilesTotal := s.dev.tilesTotal, cfgUeTotal := s.dev.cfgUeTotal
      enginesTotal := s.dev.enginesTotal }
    (∃ t, exec (.powerOnReset x) s = .next t ∧ after 0 t ∧ t.flt = Flt.init ∧ t.dev = Dev.init ∧ t.jtag = Jtag.init) ∧
    (s.inReset = false →
      (∃ t, exec (.resetN x) s = .next t ∧ after 1 t ∧ kept t ∧ t.dev = Dev.init) ∧
      (∀ mv, s.pwr.vcEn = true → mv < s.pwr.trip →
        ∃ t, exec (.vcoreReset (mv, x)) s = .next t ∧ after 2 t ∧ kept t ∧ health t) ∧
      (∀ mv, mv < 1620 → ∃ t, exec (.vauxReset (mv, x)) s = .next t ∧ after 3 t ∧ kept t ∧ health t)) ∧
    (∀ mv, s.pwr.vcEn = false ∨ s.pwr.trip ≤ mv → exec (.vcoreReset (mv, x)) s = .next s) ∧
    (∀ mv, 1620 ≤ mv → exec (.vauxReset (mv, x)) s = .next { s with pwr :=
      { s.pwr with auxArmed := s.pwr.auxArmed || decide (1700 < mv) } }) ∧
    (s.cfg.boot = .off → exec (.resetN x) s = .next s) ∧
    (s.cfg.boot = .thermal → ∃ t, exec (.resetN x) s = .next t ∧ t.cfg.boot = .thermal ∧ t.quince.stopped = true ∧
      t.dev = Dev.init ∧ t.pwr.lastReset = 1) ∧
    (∃ t, exec .vaonFall s = .next t ∧ t.cfg.boot = .off ∧ t.quince.stopped = true ∧ t.pins.released = false ∧
      t.flt = Flt.init ∧ t.mem.cells = [])

/-- The boot ROM's steps (R256–R259, R261, R281, R286, R289, R294, R335, R337, R374–R376): the self-test, the boot
table from the flash's data lines and the commands that read it, VCORE, the attempts, and a reload. -/
def Obligations.BootSteps : Prop :=
  ∀ (s : State),
    let stop7 := fun (t : State) => t.cfg.boot = .stopped ∧ t.cfg.status = 7 ∧ t.cfg.state = .failed ∧
      t.dev.svcBoot = true
    (∀ v codes skip, s.cfg.boot = .reset →
      ∃ t, exec (.analogStartup v codes skip) s = .next t ∧ t.bist.done = true ∧ t.bist.complete = true ∧
        t.bist.steps = 29 ∧
        ((∀ n, n < 29 → v.getLsbD n = true ∨ (17 ≤ n ∧ skip.getLsbD (n - 17) = true)) →
          t.cfg.boot = .table ∧ t.bist.result = 1) ∧
        (t.bist.sig ≠ passSignature 1 → t.bist.result = 2 ∧ stop7 t)) ∧
    (∀ v codes skip, s.cfg.boot ≠ .reset → exec (.analogStartup v codes skip) s = .next s) ∧
    (∀ ls ls' vm ok, s.cfg.boot = .table →
      let main := flashBytes s.cfg.bootsel.toNat ls
      let back := flashBytes s.cfg.bootsel.toNat ls'
      ∃ t, exec (.bootTableRead ls ls' vm ok) s = .next t ∧ t.cfg.boot = .vcore ∧ t.pwr.vcEn = true ∧
        (s.cfg.bootsel = 3 → t.cfg.flash = none) ∧
        (s.cfg.bootsel ≠ 3 →
          let at' := if tableValid main = true then 0 else 0x1000
          t.cfg.flash = some {
            cmd := if s.cfg.bootsel = 2 then 0x03 else 0x6B, addr := if s.cfg.bootsel = 1 then at' / 2 else at'
            addrBytes := 3, dummy := if s.cfg.bootsel = 2 then 0 else 8, both := decide (s.cfg.bootsel = 1)
            div := 96 }) ∧
        t = { s with cfg := t.cfg, pwr := t.pwr } ∧
        (s.cfg.bootsel ≠ 3 → tableValid main = true → t.cfg.table = some (tableOf main) ∧ t.cfg.tableOk = true ∧
          t.cfg.backup = false) ∧
        (s.cfg.bootsel ≠ 3 → tableValid main = false → tableValid back = true →
          t.cfg.table = some (tableOf back) ∧ t.cfg.tableOk = true ∧ t.cfg.backup = true) ∧
        (s.cfg.bootsel = 3 ∨ (tableValid main = false ∧ tableValid back = false) →
          t.cfg.table = none ∧ t.cfg.tableOk = false ∧ t.pwr.target = 850) ∧
        (s.cfg.bootsel ≠ 3 → tableValid main = true → s.pwr.pmbusOk = false →
          ((tableOf main).pmbus = true → (∃ m, vm = some m ∧ m.extractLsb' 5 3 = 0) → ok = true →
            t.pwr.pmbusOk = true ∧ t.pwr.target = (tableOf main).vcoreMv ∧
            t.pwr.pmSent.map (fun x => x.code) = [0x20, 0x27, 0x21] ∧
            t.pwr.pmSent.map (fun x => x.addr) = List.replicate 3 (tableOf main).pmAddr) ∧
          ((tableOf main).pmbus = false ∨ vm = none ∨ ok = false → t.pwr.pmbusOk = false ∧ t.pwr.target = 850))) ∧
    (∀ mv, s.cfg.boot = .vcore → mv ≤ s.pwr.target + 25 → s.pwr.target ≤ mv + 25 →
      ∃ t, exec (.vcoreArrival mv) s = .next t ∧ t.pwr.warnArmed = true ∧
        (s.cfg.bootsel = 3 → t.cfg.boot = .load ∧ t.cfg.status = 2 ∧ t.cfg.tries = []) ∧
        (∀ x, s.cfg.bootsel ≠ 3 → s.cfg.table = some x →
          t.cfg.boot = .load ∧ t.cfg.status = 1 ∧ (s.cfg.goldenNext = false → t.cfg.tries = x.order) ∧
          t.cfg.wdogMs = (if x.wdogMs = 0 then s.cfg.wdogMs else x.wdogMs) ∧
          t.cfg.retryLimit = (if x.retry = 0 then s.cfg.retryLimit else x.retry)) ∧
        (s.cfg.bootsel ≠ 3 → s.cfg.table = none →
          t.cfg.boot = .stopped ∧ t.cfg.status = 6 ∧ t.cfg.state = .failed ∧ t.cfg.err = 1 ∧ t.dev.svcBoot = true)) ∧
    (s.cfg.boot = .vcore → ∃ t, exec .vcoreArrivalTimeout s = .next t ∧ stop7 t) ∧
    (s.cfg.boot ≠ .vcore → exec .vcoreArrivalTimeout s = .next s) ∧
    (s.cfg.boot = .load → s.cfg.load = none → s.cfg.bootsel ≠ 3 →
      (∀ g r, s.cfg.tries = g :: r → ∃ t, exec .loadAttempt s = .next t ∧ t.cfg.tries = r ∧
        t.cfg.state = .loadingFull ∧ t.cfg.status = (if g then 3 else 2) ∧
        (∀ x, s.cfg.table = some x →
          let o := (if g then x.golden else x.primary).toNat
          t.cfg.load = some (ImageLoad.begin .flash false g o 0) ∧ ∃ f, t.cfg.flash = some f ∧
            f.cmd = (if s.cfg.bootsel = 2 then (if x.addr4 then 0x13 else 0x03) else if x.addr4 then 0x6C else 0x6B) ∧
            f.addr = (if s.cfg.bootsel = 1 then o / 2 else o) % 2 ^ (if x.addr4 then 32 else 24)) ∧
        t.cfg.frames = [] ∧ t.pins.released = false ∧
        t.lace.desc = [] ∧ ∀ a, a < 0x01200000 → t.byte a = 0) ∧
      (s.cfg.tries = [] → ∃ t, exec .loadAttempt s = .next t ∧ t.cfg.boot = .stopped ∧ t.cfg.status = 6 ∧
        t.cfg.state = .failed ∧ t.dev.svcBoot = true)) ∧
    (∀ x, s.mayReload = true → s.cfg.load = none → s.cfg.bootsel ≠ 3 → s.cfg.table = some x →
      ∃ t, exec .reload s = .next t ∧ t.cfg.boot = .load ∧ t.cfg.status = 1 ∧ t.cfg.frames = [] ∧
        t.cfg.tries = (if s.cfg.goldenNext then ({ x with policy := 2 } : BootTable).order else x.order) ∧
        (t.core 128).pc = 0x0FFF8000#32 ∧ t.quince.firmware = false ∧ t.clk.now = Pll.init ∧
        t.pins.released = false ∧ ∀ a, 0x0F000000 ≤ a → t.byte a = s.byte a) ∧
    (s.mayReload = false → exec .reload s = .next s) ∧
    (s.cfg.boot ≠ .load ∨ s.cfg.load ≠ none ∨ s.cfg.bootsel = 3 → exec .loadAttempt s = .next s) ∧
    exec .errClr s = .next { s with cfg := { s.cfg with
      err := 0, errAddr := 0, errIsOffset := false, errInRetry := false, errGolden := false, errPartial := false } }

/-- Records of an image (R256, R257, R263–R273, R275, R280, R282, R288, R301): each takes its effect, and the
offset and the image CRC go on. `b` is a whole record without an error that the levels `ls` of the flash's data
lines give: in quad form two nibbles a byte, the high one first; with two flashes a byte a cycle; in single-bit form
eight cycles a byte on CF_D1, the most significant bit first. -/
def Obligations.LoaderRecords : Prop :=
  (∀ h l r, flashBytes 0 (h :: l :: r) = (h.extractLsb' 0 4 ++ l.extractLsb' 0 4) :: flashBytes 0 r) ∧
  (∀ r, flashBytes 1 r = r) ∧
  (∀ (x : Vector Byte 8) r, ∃ v, flashBytes 2 (x.toList ++ r) = v :: flashBytes 2 r ∧
    ∀ i : Fin 8, v.getLsbD (7 - i) = (x.get i).getLsbD 1) ∧
  ∀ (s : State) (l : ImageLoad) (ls b : List Byte), s.loading = some l → l.source = .flash → l.retry = none →
    flashBytes s.cfg.bootsel.toNat ls = b → 8 ≤ b.length → b.length = 8 + recLen b → l.headerErr b = none → readErr b = none →
    let taken := fun (t : State) (x : ImageLoad) => t.cfg.load = some { x with
      offset := l.offset + b.length, crc := word (crcRun l.crc.toNat b), retry := none
      msg := if bitOf x.options 0 && recOp b != 0x0B then l.msg ++ b else l.msg }
    let wrote := fun (t : State) (f : Frame) (n : Nat) (addrs : List Nat) =>
      (∀ a ∈ addrs, t.frame a = f) ∧ (∀ a, a ∉ addrs → t.frame a = s.frame a) ∧ t.mem = s.mem ∧
      t.cfg.framesWritten = s.cfg.framesWritten + n ∧ taken t { l with frameSeen := true, written := l.written + n }
    let body := recBody b
    let at' := recOperand b
    (recOp b = 0x01 → l.partialImage = false → headErr false b = none →
      ∃ t, exec (.head ls) s = .next t ∧ t = { s with cfg := t.cfg } ∧ taken t { l with
        head := true, options := headOptions b, authNext := bitOf (headOptions b) 0, region := headRegion b
        mask := headMask b, frames := headFrames b, length := at' }) ∧
    (recOp b = 0x02 → s.frameErr l (frameOfBytes body) at' = none → faKind at' = 0 ∨ faKind at' = 1 →
      ∃ t, exec (.frame ls) s = .next t ∧ wrote t (frameOfBytes body) 1 [at']) ∧
    (∀ d, recOp b = 0x03 → unpack body = some d → s.frameErr l (frameOfBytes d) at' = none →
      faKind at' = 0 ∨ faKind at' = 1 → ∃ t, exec (.packed ls) s = .next t ∧ wrote t (frameOfBytes d) 1 [at']) ∧
    (recOp b = 0x04 → ∃ t x, exec (.dict ls) s = .next t ∧ t = { s with cfg := t.cfg } ∧ taken t x ∧
      (x.dict.find? (fun q => q.1 = at')).map (·.2) = some (frameOfBytes body) ∧
      ∀ k, k ≠ at' → x.dict.find? (fun q => q.1 = k) = l.dict.find? (fun q => q.1 = k)) ∧
    (∀ f n, recOp b = 0x05 → n = le body 2 2 → 0 < n → le body 1 1 = 0 →
      l.dict.find? (fun q => q.1 = le body 0 1) = some (le body 0 1, f) →
      (∀ a ∈ stampAddrs at' n (le body 4 4), s.frameErr l f a = none ∧ faKind a = 0) →
      ∃ t, exec (.stamp ls) s = .next t ∧ wrote t f n (stampAddrs at' n (le body 4 4))) ∧
    (∀ n, recOp b = 0x06 → n = le body 0 2 → 0 < n → le body 2 2 = 0 →
      (∀ a ∈ stampAddrs at' n (le body 4 4), s.frameErr l 0 a = none ∧ faKind a = 0) →
      ∃ t, exec (.zero ls) s = .next t ∧ wrote t 0 n (stampAddrs at' n (le body 4 4))) ∧
    (recOp b = 0x07 → masksClash b = false → ∃ t, exec (.regions ls) s = .next t ∧ t = { s with cfg := t.cfg } ∧
      taken t { l with regionsSeen := true } ∧
      ∀ r, 0 < r → r < 16 → t.region r = { state := .empty, mask := regionMask b r, loads := 0 }) ∧
    (recOp b = 0x08 → seqErr b (fun r => (s.region r).mask != 0) = none →
      ∃ t, exec (.seq ls) s = .next t ∧ t = { s with cfg := t.cfg } ∧ t.cfg.steps = seqWords b ∧
        taken t { l with seqSeen := true }) ∧
    (recOp b = 0x09 → ∃ t, exec (.sigref ls) s = .next t ∧ t = { s with cfg := t.cfg } ∧
      t.cfg.sigrefs = sigrefsOf b ++ s.cfg.sigrefs ∧ taken t { l with sigrefSeen := true }) ∧
    (recOp b = 0x0A → at' + body.length ≤ 0x3C000 → ∃ t, exec (.quince ls) s = .next t ∧ t.cfg.hasQuince = true ∧
      taken t { l with qsramCleared := true } ∧
      (∀ i, i < body.length / 4 → t.wordAt (qsramWord + at' / 4 + i) = word (le body (4 * i) 4)) ∧
      (∀ a, a < 0x0F000000 → t.byte a = s.byte a) ∧
      (l.qsramCleared = true → ∀ a, 4 * (qsramWord + at' / 4) + body.length ≤ a → t.byte a = s.byte a)) ∧
    (recOp b = 0x0B → ∃ t, exec (.auth ls) s = .next t ∧ t = { s with cfg := t.cfg } ∧ taken t { l with
      authNext := false, key := slice body 0 32, sig := slice body 32 64 })

/-- The end of a load (R113–R115, R258, R263, R273, R274, R280–R286, R289, R296, R297, R301, R318): END's checks in
their order, the signature, a retry, the watchdog, and what a failure leaves; the same record through JTAG, and one
that bank memory gives with an error, which is read again as a record with a wrong CRC is (log entry 95). SHA-512
and Ed25519 are the published standards (log entry 9). -/
def Obligations.LoadEnds : Prop :=
  ∀ (s : State) (l : ImageLoad),
    let failed := fun (code : Nat) (t : State) => t.cfg.err = code ∧
      (l.partialImage = false → t.cfg.errGolden = l.golden ∧ t.cfg.framesWritten = s.cfg.framesWritten ∧
        t.cfg.scrubEn = s.cfg.scrubEn) ∧
      t.cfg.errPartial = l.partialImage ∧ t.cfg.load = none ∧
      (l.partialImage = false → t.cfg.boot = .load ∧ t.cfg.frames = [] ∧ t.pins.released = false ∧
        (∀ a, t.byte a = 0 ∨ 0x0F03C000 ≤ a ∨ (0x01200000 ≤ a ∧ a < 0x0F000000)) ∧
        t.cfg.primaryFail = (s.cfg.primaryFail || !l.golden)) ∧
      (l.partialImage = true → (t.region s.loadRegion).state = .aborted ∧ t.cfg.state = .done)
    let failed' := fun (code : Nat) (t : State) => t.cfg.err = code ∧ t.cfg.load = none ∧
      (l.partialImage = false → t.cfg.boot = .stopped ∧ t.cfg.status = 6 ∧ t.cfg.state = .failed)
    (∀ ls b, s.loading = some l → s.cfg.load = some l → l.source = .flash → l.retry = none →
      flashBytes s.cfg.bootsel.toNat ls = b → b.length = 8 → recOp b = 0x0F → recLen b = 0 → l.headerErr b = none →
      let crcOk := crcRun l.crc.toNat (b.take 4) ^^^ 0xFFFFFFFF = recOperand b
      (¬crcOk → ∃ t, exec (.endRecord ls) s = .next t ∧ failed 7 t) ∧
      (crcOk → l.written ≠ l.frames → ∃ t, exec (.endRecord ls) s = .next t ∧ failed 23 t) ∧
      (crcOk → l.written = l.frames → bitOf l.options 0 = false → Config.fuseDigest ≠ 0 →
        ∃ t, exec (.endRecord ls) s = .next t ∧ failed 18 t) ∧
      (crcOk → l.written = l.frames → bitOf l.options 0 = true →
        ∃ t, exec (.endRecord ls) s = .next t ∧ t = { s with cfg := t.cfg } ∧
          t.cfg.load = some { l with verdict := true, msg := l.msg ++ b, retry := none }) ∧
      (crcOk → l.written = l.frames → bitOf l.options 0 = false → Config.fuseDigest = 0 → l.partialImage = false →
        s.bindingErr = none → s.startupTests = [] →
        ∃ t, exec (.endRecord ls) s = .next t ∧ t.cfg.boot = .sequence ∧ t.cfg.status = 4 ∧
          t.cfg.state = .sequence ∧ t.cfg.loaded = true ∧ t.cfg.frames = s.cfg.frames ∧
          (t.region 0).state = s.heldState 0) ∧
      (crcOk → l.written = l.frames → bitOf l.options 0 = false → Config.fuseDigest = 0 → l.partialImage = true →
        ∃ t, exec (.endRecord ls) s = .next t ∧ t.cfg.load = none ∧ t.cfg.state = .done ∧
          t.cfg.pcmdDone = true ∧ t.region l.region = { s.region l.region with
            state := .held, loads := (s.region l.region).loads + 1 })) ∧
    (s.cfg.load = some l → l.verdict = true → l.source = .flash → s.cfg.boot = .load ∨ s.cfg.state = .loadingPartial →
      (∃ t, exec .authVerdict s = .next t ∧
        ((Config.fuseDigest = 0 ∨ Crypto.keyDigest l.key = Config.fuseDigest) ∧
            Crypto.verifies l.key l.sig l.msg = true →
          l.partialImage = true → t.cfg.state = .done ∧ (t.region l.region).state = .held) ∧
        (¬((Config.fuseDigest = 0 ∨ Crypto.keyDigest l.key = Config.fuseDigest) ∧
            Crypto.verifies l.key l.sig l.msg = true) → failed 18 t))) ∧
    (s.cfg.load = some l → l.source = .flash → l.cleared = true → s.cfg.boot = .load ∨ s.cfg.state = .loadingPartial →
      ∃ t, exec .loadWatchdogExpiry s = .next t ∧ failed 19 t ∧ t.cfg.errInRetry = l.retry.isSome) ∧
    (∀ ls b e, s.loading = some l → l.source = .flash → l.retry = none → flashBytes s.cfg.bootsel.toNat ls = b →
      8 ≤ b.length → b.length = 8 + recLen b → l.headerErr b = none → recOp b = 0x09 → readErr b = some e →
      exec (.sigref ls) s = .next { s with cfg := { s.cfg with load := some { l with retry := some 0 } } }) ∧
    (∀ ls b r, s.loading = some l → l.source = .jtag → l.retry = none → s.cfg.jtagBuf = b ++ r → 8 ≤ b.length →
      b.length = 8 + recLen b → l.headerErr b = none → recOp b = 0x09 →
      (readErr b = none → ∃ t, exec (.sigref ls) s = .next t ∧ t = { s with cfg := t.cfg } ∧ t.cfg.jtagBuf = r ∧
        t.cfg.sigrefs = sigrefsOf b ++ s.cfg.sigrefs) ∧
      ∀ e, readErr b = some e → ∃ t, exec (.sigref ls) s = .next t ∧ failed' e t) ∧
    (let wa := (l.base + l.offset) / 4
     s.loading = some l → l.source = .memory → l.retry = none → l.offset + 8 ≤ l.avail → qsramWord ≤ wa →
      s.eccAt (wa + 1) = none → ∀ ls, s.eccAt wa = some .poison →
        exec (.sigref ls) s = .next { s with cfg := { s.cfg with load := some { l with retry := some 0 } } }) ∧
    (∀ ls b n, s.loading = some l → l.source = .flash → l.retry = some n → flashBytes s.cfg.bootsel.toNat ls = b →
      8 ≤ b.length → b.length = 8 + recLen b → l.headerErr b = none → recOp b ≠ 0x0F →
      (readErr b = none → recOp b = 0x09 → ∃ t, exec (.recordRetry ls) s = .next t ∧
        t.cfg.retryCount = min 0xFFFF (s.cfg.retryCount + 1) ∧ t.cfg.sigrefs = sigrefsOf b ++ s.cfg.sigrefs) ∧
      (∀ e, readErr b = some e → n + 1 < max 1 s.cfg.retryLimit.toNat → ∃ f, exec (.recordRetry ls) s = .next { s with
        cfg := { s.cfg with
          flash := some f, retryCount := min 0xFFFF (s.cfg.retryCount + 1), load := some { l with retry := some (n + 1) } } }) ∧
      (∀ e, readErr b = some e → max 1 s.cfg.retryLimit.toNat ≤ n + 1 →
        ∃ t, exec (.recordRetry ls) s = .next t ∧ failed e t)) ∧
    (∀ b, s.loading = some l → s.jtag.ir = .cfgLoad → l.source = .jtag → jtagUse s.cfg.jtagBuf < 4096 →
      exec (.jtagImageByte b) s = .next { s with cfg := { s.cfg with jtagBuf := s.cfg.jtagBuf ++ [b] } }) ∧
    (s.jtag.ir = .cfgLoad → ∃ t v, exec .cfgLoadCapture s = .next t ∧
      t = { s with cfg := { s.cfg with jtagStatus := v }, jtag := { s.jtag with capture := v.setWidth 1788 } } ∧
      v.getLsbD 0 = decide (jtagUse s.cfg.jtagBuf + 1024 ≤ 4096) ∧
      v.getLsbD 1 = (s.cfg.state == .done) ∧ v.getLsbD 2 = (s.cfg.state == .failed))

/-- The TAP (R249, R250, R258, R333): each instruction loads its code and what it captures, EXTEST and CLAMP
drive the balls from the boundary register, a ball keeps the level that its pad drove last, and leaving them
gives every pin back through its switch. SAMPLE captures the dedicated balls too; VC_EN goes on. -/
def Obligations.TapInstructions : Prop :=
  ∀ (s : State),
    let j := s.jtag
    let kept := fun (t : State) (x : Jtag) =>
      t = { s with jtag := x, pins := { s.pins with pins := t.pins.pins } } ∧
      ∀ p, p < 576 → t.pin p = { s.pin p with kept := scanKept s p }
    let sampled := fun (v pads : BitVec 1788) =>
      (∀ p l, p < 576 → s.oddOfPair p = false → (s.pin p).drive = some l →
        v.getLsbD (3 * p + 2) = true ∧ v.getLsbD (3 * p + 1) = l) ∧
      (∀ p, p < 576 → s.oddOfPair p = false → (s.pin p).drive = none → v.getLsbD (3 * p + 2) = false) ∧
      (∀ k, k < 594 → v.getLsbD (3 * k) = pads.getLsbD (3 * k)) ∧
      v.getLsbD 1730 = true ∧ v.getLsbD 1729 = s.cfg.doneBall ∧ v.getLsbD 1733 = s.serviceLow ∧
      (∀ n, n < 3 → v.getLsbD (1736 + 3 * n) = true ∧ v.getLsbD (1735 + 3 * n) = s.cfg.status.testBit n) ∧
      v.getLsbD 1787 = s.pwr.vcEn
    (s.cfg.boot ≠ .off →
      (∃ t, exec .highz s = .next t ∧ kept t { j with ir := .highz, capture := 0 }) ∧
      (∃ t, exec .clamp s = .next t ∧ kept t { j with ir := .clamp, capture := 0 })) ∧
    (s.cfg.boot ≠ .off → j.ir.ownsPads = false →
      exec .idcode s = .next { s with jtag := { j with ir := .idcode, capture := 0x1E51C0A3 } } ∧
      exec .testLogicReset s = .next { s with jtag := { j with ir := .idcode, capture := 0x1E51C0A3 } } ∧
      (∀ code, exec (.bypass code) s = .next { s with jtag := { j with ir := .bypass, capture := 0 } }) ∧
      (∀ pads dr, ∃ t v, exec (.extest pads dr) s = .next t ∧ sampled v pads ∧
        kept t { j with ir := .extest, boundary := dr.getD j.boundary, capture := v }) ∧
      (∀ pads d, ∃ v, exec (.samplePreload pads (some d)) s =
          .next { s with jtag := { j with ir := .samplePreload, boundary := d, capture := v } } ∧ sampled v pads) ∧
      (∃ t v, exec .debug s = .next t ∧ t = { s with jtag := { j with ir := .debug, capture := v } } ∧
        (s.debugLocked = true → v = 0) ∧
        (s.debugLocked = false → v.setWidth 32 = s.quince.dbgData ∧ v.getLsbD 64 = s.quince.dbgDone ∧
          v.getLsbD 65 = s.quince.dbgErr ∧ v.getLsbD 66 = (s.quince.dbgHalted && !(s.core 128).stepping))) ∧
      (s.jtagMayLoad = false → exec .cfgLoad s = .next { s with jtag := { j with ir := .cfgLoad } }) ∧
      (s.jtagMayLoad = true → ∃ t, exec .cfgLoad s = .next t ∧ t.jtag.ir = .cfgLoad ∧ t.cfg.jtagBuf = [] ∧
        t.cfg.state = .loadingFull ∧ t.cfg.load = some (ImageLoad.begin .jtag false false 0 0) ∧
        t.cfg.frames = [] ∧ t.pins.released = false)) ∧
    (s.cfg.boot ≠ .off → j.ir.ownsPads = true → ∃ t, exec .tapInstructionExit s = .next t ∧
      t = { s with jtag := { j with ir := .bypass, capture := 0 }, pins := { s.pins with pins := t.pins.pins } } ∧
      ∀ p, p < 576 →
        let x := { s.pin p with kept := scanKept s p }
        t.pin p = if s.pins.released = false ∨ x.contained = true then x else
          { x with
            drive := s.padDrive p
            sw := if x.sw.cycle = 0 ∨ x.sw.cycle = 4
              then { cycle := 1, cfg := x.cfg, next := x.sw.next, scan := true } else x.sw }) ∧
    (j.ir.ownsPads = false → exec .tapInstructionExit s = .next s) ∧
    (∀ p, (s.padOff p = true → s.padDrive p = none) ∧
      (j.ir = .highz → s.padDrive p = none) ∧
      (s.padOff p = false → j.ir = .extest ∨ j.ir = .clamp → s.padDrive p =
        if j.boundary.getLsbD (3 * p + 2) then some (j.boundary.getLsbD (3 * p + 1)) else none) ∧
      (s.padOff p = false → j.ir.ownsPads = false → s.padDrive p =
        if s.oddOfPair p then (s.pin (p - 1)).drive.map (fun v => !v) else (s.pin p).drive)) ∧
    (s.cfg.boot = .off → exec .idcode s = .next s ∧ exec .highz s = .next s ∧ ∀ pads d, exec (.extest pads d) s = .next s)

/-- The debug port (R249, R323, R333): the 68 bits of a scan pick the command, its address and its data; each
scan captures the result of the command before and runs its own; halt, resume, step, words and registers of
Quince's address map, and Quince's own registers while halted. A RESUME on the boot ROM's handler runs it (its
end is the manual's, its taking one step the model's choice, log entry 87). -/
def Obligations.DebugPort : Prop :=
  (∀ a d : Word,
    debugCommand (0#4 ++ a ++ d) = .debugStatus ∧ debugCommand (1#4 ++ a ++ d) = .debugHalt ∧
    debugCommand (2#4 ++ a ++ d) = .debugResume ∧ debugCommand (3#4 ++ a ++ d) = .debugStep ∧
    debugCommand (4#4 ++ a ++ d) = .debugReadWord a ∧ debugCommand (5#4 ++ a ++ d) = .debugWriteWord a d ∧
    debugCommand (6#4 ++ a ++ d) = .debugReadRegister a ∧ debugCommand (7#4 ++ a ++ d) = .debugWriteRegister a d ∧
    ∀ c : BitVec 4, 8 ≤ c.toNat → debugCommand (c ++ a ++ d) = .debugReservedCommand c) ∧
  ∀ (s : State),
    let s0 := { s with jtag := { s.jtag with capture := s.debugCapture } }
    let q := s.quince
    let answer := fun (d : Word) (done err : Bool) =>
      ({ s0 with quince := { q with dbgData := d, dbgDone := done, dbgErr := err } } : State)
    let bad := answer 0 true true
    let seen := fun (wa : Nat) (t : State) => ({ t with
      pwr := if wa < 0x400000 then { s.pwr with accesses := s.pwr.accesses + 1 } else s.pwr } : State)
    let halted := q.dbgHalted = true ∧ (s.core 128).stepping = false
    (s.jtag.ir ≠ .debug ∨ s.debugLocked = true → exec .debugStatus s = .next s ∧ exec .debugHalt s = .next s ∧
      exec .debugResume s = .next s ∧ exec .debugStep s = .next s ∧
      ∀ a d, exec (.debugWriteWord a d) s = .next s ∧ exec (.debugWriteRegister a d) s = .next s) ∧
    (s.jtag.ir = .debug → s.debugLocked = false → s.inReset = false →
      exec .debugStatus s = .next s0 ∧
      (∀ cmd, exec (.debugReservedCommand cmd) s = .next bad) ∧
      (halted → exec .debugHalt s = .next (answer 0 true false) ∧
        ((s.core 128).pc ≠ 0x0FFFF000#32 → exec .debugResume s = .next { s0 with quince := { q with
          dbgData := 0, dbgDone := true, dbgErr := false, dbgHalted := false, stopped := false } }) ∧
        (∀ l r, (s.core 128).pc = 0x0FFFF000#32 → q.ctxs = .bank2 l :: r → ∃ t, exec .debugResume s = .next t ∧
          t.pwr = { s.pwr with vwarn := false } ∧ 0 ∉ t.intc.inService ∧ t.quince = { q with
            dbgData := 0, dbgDone := true, dbgErr := false, dbgHalted := false, stopped := false, ctxs := r, lvl := l } ∧
          (t.core 128).pc = q.ipc2 &&& 0xFFFFFFFC#32 ∧ ∀ k, k ≠ 128 → t.core k = s.core k) ∧
        (∃ t, exec .debugStep s = .next t ∧ (t.core 128) = { s.core 128 with stepping := true } ∧
          t = { s0 with cores := t.cores, quince := { q with
            dbgData := 0, dbgDone := false, dbgErr := false, stopped := false } } ∧
          ∀ k, k ≠ 128 → t.core k = s.core k)) ∧
      (¬halted → s.ready = none → q.stopped = false → (s.core 128).wait = none → (s.core 128).storeErr = none →
        ((s.core 128).load = none → ∃ t, exec .debugHalt s = .next t ∧ t.quince = { q with
            dbgData := 0, dbgDone := true, dbgErr := false, dbgHalted := true } ∧
          t.core 128 = { s.core 128 with haltPend := false, stepping := false }) ∧
        ((s.core 128).load.isSome = true → ∃ t, exec .debugHalt s = .next t ∧ t.quince.dbgDone = false ∧
          t.core 128 = { s.core 128 with haltPend := true })) ∧
      (¬halted → exec .debugStep s = .next bad ∧ exec .debugResume s = .next (answer 0 true false) ∧
        (∀ r, exec (.debugReadRegister r) s = .next bad) ∧ ∀ r v, exec (.debugWriteRegister r v) s = .next bad) ∧
      (∀ a wa, target 128 (a &&& 0xFFFFFFFC#32) = .mem wa → s.memServes wa = true → PortIdle s wa →
        (s.eccAt wa = none → exec (.debugReadWord a) s = .next (seen wa (answer (s.wordAt wa) true false))) ∧
        (s.eccAt wa = some .poison → exec (.debugReadWord a) s = .next (seen wa bad)) ∧
        (∀ d, ∃ t, exec (.debugWriteWord a d) s = .next t ∧ t.wordAt wa = d ∧ t.eccAt wa = none ∧
          t.quince.dbgDone = true ∧ t.quince.dbgErr = false ∧ ∀ b, b / 4 ≠ wa → t.byte b = s.byte b)) ∧
      (∀ a, s0.accessCheck 128 (a &&& 0xFFFFFFFC#32) .word .load = none →
        (∀ r, target 128 (a &&& 0xFFFFFFFC#32) = .reg r → exec (.debugReadWord a) s =
          .next { s0.readEffect 128 r with quince := { q with
            dbgData := s0.regValue 128 r, dbgDone := true, dbgErr := false } }) ∧
        (∀ t o, target 128 (a &&& 0xFFFFFFFC#32) = .tileReg t o →
          exec (.debugReadWord a) s = .next (answer (word (s0.readTile t o)) true false)) ∧
        (∀ o, target 128 (a &&& 0xFFFFFFFC#32) = .desc o →
          exec (.debugReadWord a) s = .next (answer (s.desc (o / 4)) true false))) ∧
      (∀ a r d, s0.accessCheck 128 (a &&& 0xFFFFFFFC#32) .word .store = none →
        target 128 (a &&& 0xFFFFFFFC#32) = .reg r →
        exec (.debugWriteWord a d) s = .next ((answer 0 true false).writeReg r d)) ∧
      (∀ a, target 128 (a &&& 0xFFFFFFFC#32) = .none →
        exec (.debugReadWord a) s = .next bad ∧ ∀ d, exec (.debugWriteWord a d) s = .next bad) ∧
      (halted →
        (∀ b n, b < 3 → n < 16 → exec (.debugReadRegister (word (32 * b + n))) s =
            .next (answer (s.regIn 128 b n) true false) ∧
          ∀ v, ∃ t, exec (.debugWriteRegister (word (32 * b + n)) v) s = .next t ∧
            t.quince = { q with dbgData := 0, dbgDone := true, dbgErr := false } ∧
            ∀ c m, c < 3 → m < 16 → t.regIn 128 c m = if c = b ∧ m = n ∧ n ≠ 0 then v else s.regIn 128 c m) ∧
        exec (.debugReadRegister 0x60#32) s = .next (answer (s.core 128).pc true false) ∧
        (∀ v, ∃ t, exec (.debugWriteRegister 0x60#32 v) s = .next t ∧
          t.core 128 = { s.core 128 with pc := v &&& 0xFFFFFFFC#32 }) ∧
        (∀ r : Word, 0x107 ≤ r.toNat → exec (.debugReadRegister r) s = .next bad)))

/-- The start-up sequence (R33, R85, R126, R247, R270, R287, R300): what each step does when it begins and
when it completes. `s.cfg.seqDone = 0` stands for the first step. DELAY counts HK cycles, at ROOT / D7 or at
25 MHz; WAIT_PIN looks behind the synchroniser; an engine that a release has already started runs on. -/
def Obligations.StartupSequence : Prop :=
  ∀ (s : State),
    let i := if s.cfg.seqDone = 0 then 0 else s.cfg.seqIndex + 1
    let w := s.cfg.steps.getD i 0
    let code := (w.extractLsb' 0 8).toNat
    let begun := fun (p : SeqPhase) => ({ s with cfg := { s.cfg with
      seqIndex := i, seqCode := code, seqPhase := p } } : State)
    let ended := fun (t : State) => t.cfg.seqPhase = .ready ∧ t.cfg.seqIndex = i ∧ t.cfg.seqCode = code ∧
      t.cfg.seqDone = s.cfg.seqDone ||| BitVec.ofNat 10 (2 ^ code)
    (s.cfg.boot = .sequence → s.cfg.seqPhase = .ready →
      (code = 7 → exec .seqStep s = .next (begun (.delay (
        let us := (w.extractLsb' 8 24).toNat
        let d := 2 ^ 24 * s.clk.now.div * ((s.ec 7).div.toNat + 1)
        if s.clk.rootLock then (us * 25 * s.clk.now.vco + d - 1) / d else us * 25)))) ∧
      (code = 8 → exec .seqStep s = .next (begun (.waitPin (w.extractLsb' 8 10).toNat (w.getLsbD 18)
        (w.extractLsb' 19 13 != 0)))) ∧
      (code = 9 → ∃ l, exec .seqStep s = .next (begun (.regions l)) ∧
        ∀ r, r ∈ l ↔ 0 < r ∧ r < 16 ∧ w.getLsbD (8 + r) = true) ∧
      (code = 1 → ∃ t, exec .seqStep s = .next t ∧ t.cfg.seqPhase = .waitLock ∧ t = { s with cfg := t.cfg, clk := t.clk }) ∧
      (code = 2 → ∃ t, exec .seqStep s = .next t ∧ ended t ∧ t.pins.released = true ∧
        t = { s with cfg := t.cfg, pins := t.pins, freeCtr := t.freeCtr } ∧
        ∀ p, p < 576 → (s.pin p).contained = false → pcMode (s.pin p).cfg = 0 →
          (t.pin p).drive = (if pbOe (s.pin p).binding = 0 then some (pcRstLvl (s.pin p).cfg) else none) ∧
          (t.pin p).mask = 2) ∧
      (code = 3 → (∀ r, PortsQuiet s r) → ∃ t, exec .seqStep s = .next t ∧ t.cfg.seqPhase = .placing ∧
        ∀ k, k < 128 → s.regionOf k = 0 → (s.tile k).power = .on → (s.tile k).fenced = false →
          (s.tilePowerBit k = true → (t.tile k).fabric = .placed) ∧
          (s.tilePowerBit k = false → s.pwr.powerQueue.contains k = false →
            (t.tile k).power = if (s.tile k).retMode then .retain else .gated)) ∧
      (code = 4 → ∃ t, exec .seqStep s = .next t ∧ t.cfg.seqPhase = .enabling ∧
        t = { s with cfg := t.cfg, tiles := t.tiles } ∧
        ∀ k, k < 128 → t.tile k = if s.regionOf k = 0 ∧ (s.tile k).power = .on ∧ (s.tile k).fabric = .placed
          then { s.tile k with fabric := .live } else s.tile k) ∧
      (code = 5 → ∃ t, exec .seqStep s = .next t ∧ ended t ∧ t = { s with cfg := t.cfg, cores := t.cores } ∧
        ∀ k, k < 128 → (s.core k).state ≠ .fenced →
          (s.regionOf k = 0 → (s.tile k).power = .on →
            ((s.tile k).autostart = true → (t.core k).state = .running ∧ (t.core k).pc = 0x01800000#32 ∧
              (t.core k).regs = []) ∧
            ((s.tile k).autostart = false → (t.core k).state = .halted)) ∧
          (s.regionOf k ≠ 0 → t.core k =
            if (s.core k).state = .held then { s.core k with state := .off } else s.core k)) ∧
      (code = 6 → ∃ t, exec .seqStep s = .next t ∧ ended t ∧ t.cfg.pacersStarted = true ∧
        t = { s with cfg := t.cfg, pacers := t.pacers, cores := t.cores } ∧
        ∀ n, n < 64 → t.pacer n = { s.pacer n with
          acc := 0, accClr := false, late := [], count := 0, deficits := 0, fresh := false, leadMax := 0 }) ∧
      (code = 0 → ∃ t, exec .seqStep s = .next t ∧ t.cfg.boot = .done ∧ t.cfg.status = 5 ∧ t.cfg.doneBall = true ∧
        t.cfg.state = .done ∧ t.cfg.load = none ∧ t.cfg.scrubEn = true ∧
        (s.cfg.hasQuince = true → (t.core 128).pc = 0x0F000000#32 ∧ t.quince.firmware = true) ∧
        ∀ l, s.cfg.load = some l → t.cfg.golden = l.golden ∧ t.cfg.pertOk = bitOf l.options 2 ∧
          t.cfg.sessionLock = (s.cfg.sessionLock || bitOf l.options 1))) ∧
    (s.cfg.boot ≠ .sequence ∨ s.cfg.seqPhase ≠ .ready → exec .seqStep s = .next s) ∧
    (let fin := { s with cfg := { s.cfg with
       seqPhase := .ready, seqDone := s.cfg.seqDone ||| BitVec.ofNat 10 (2 ^ s.cfg.seqCode) } }
     (s.cfg.boot = .sequence →
       (s.cfg.seqPhase = .waitLock → s.allLocked = false → exec .seqStepComplete s = .next s) ∧
       (s.cfg.seqPhase = .waitLock → s.allLocked = true → ∃ t, exec .seqStepComplete s = .next t ∧
         t = { fin with pins := t.pins }) ∧
       (s.cfg.seqPhase = .enabling → exec .seqStepComplete s = .next fin) ∧
       (s.cfg.seqPhase = .placing → ∃ t, exec .seqStepComplete s = .next t ∧ t.cfg.seqPhase = .ready ∧
         (t.region 0).state = if (s.region 0).state = .fenced then .fenced else .running) ∧
       (∀ l, s.cfg.seqPhase = .regions l →
         ((∀ r ∈ l, (s.region r).state ≠ .held) → exec .seqStepComplete s = .next fin) ∧
         ((∃ r ∈ l, (s.region r).state = .held) → exec .seqStepComplete s = .next s))) ∧
     (∀ n, s.cfg.seqPhase = .delay n → exec .delayExpiry s = .next fin) ∧
     (∀ p v limited, s.cfg.seqPhase = .waitPin p v limited →
       (limited = true → exec .waitPinTimeout s = .next { fin with cfg := { fin.cfg with pinTmo := true } }) ∧
       (limited = false → exec .waitPinTimeout s = .next s) ∧
       (∀ b, ∃ t, exec (.waitPinMatch b) s = .next t ∧
         t = { s with cfg := (if (s.pin p).sync2 = v then fin.cfg else s.cfg), pins := { s.pins with pins := t.pins.pins } } ∧
         ∀ n, t.pin n = if n = s.pairPin p then { s.pin n with board := b } else s.pin n)) ∧
     (∀ l, s.cfg.seqPhase = .waitLock → s.cfg.load = some l → l.partialImage = false → l.source = .flash →
       ∃ t, exec .waitLockTimeout s = .next t ∧ t.cfg.err = 27 ∧ t.cfg.load = none ∧ t.cfg.boot = .load ∧
         t.cfg.seqPhase = .ready ∧ t.pins.released = false))

/-- What power-on reset leaves (R33, R126, R163, R171, R224, R247, R249, R327, R328, R332, R350–R352, R371):
the values that the manual states, no command waiting, and memory in its canonical form. -/
def Obligations.ResetValues : Prop :=
  let s := State.reset
  s.pending = [] ∧ s.mem.wf = true ∧ (∀ a, s.byte a = 0) ∧
  (s.core 128).pc = 0x0FFF8000#32 ∧ (s.core 128).state = .running ∧
  (∀ e, e < 128 → (s.core e).state = .held ∧ (s.tile e).fabric = .held ∧ (s.tile e).power = .on ∧
    (s.tile e).scrubEn = true ∧ (s.tile e).fenced = false) ∧
  s.quince.vbase = 0x0FFF8000#32 ∧ s.quince.ie = false ∧ s.quince.lvl = 0 ∧ s.quince.exc = false ∧
  (∀ p, (s.pin p).drive = none ∧ (s.pin p).cfg = 0) ∧ s.pins.released = false ∧
  (∀ n, n < 16384 → s.desc (4 * n + 1) = word (n / 128 * 2 ^ 13) ∧ s.desc (4 * n) = 0) ∧
  s.lace.tickDiv = 0x64 ∧ s.lace.reroute = true ∧ s.lace.adoptEv = 0xC ∧
  (s.ec 7).en = true ∧ (s.ec 7).div = 0x00B ∧ (∀ n, n < 7 → (s.ec n).en = false) ∧ s.clk.pllEn = true ∧
  (∀ n, (s.uart n).baud = 0x35 ∧ (s.uart n).ctrl = 0x100#32) ∧ s.hk.qwdog.en = false ∧ s.hk.qwdog.limit = 0x3E8 ∧
  s.pwr.vcEn = false ∧ s.pwr.upStep = 5 ∧ s.pwr.hold = 8 ∧ s.pwr.vmin = 550 ∧ s.pwr.vmax = 950 ∧
  s.pwr.tlim = 95 ∧ s.pwr.hyst = 5 ∧ s.flt.wdogFence = true ∧ s.flt.trapFence = false ∧ s.flt.ewdog = 8 ∧
  s.intc.vbase = 0x0FFFF ∧ s.jtag.ir = .idcode ∧ s.cfg.wdogMs = 0x0FA0 ∧ s.cfg.retryLimit = 3

/-- Every step keeps memory in its canonical form: bytes at strictly rising addresses, none that an unlisted
address reads as, and codes of words at strictly rising word numbers. So equal memories are equal data,
whatever command or idle cycle the step runs. -/
def Obligations.StepKeepsMemory : Prop :=
  ∀ (s t : State), s.mem.wf = true → step s = .next t → t.mem.wf = true

/-- A cycle with no command waiting (R8, R149, R192, R201, R239, R287, R331, R332; the model's choice, log entry
1): time goes on by one HK cycle, every running timer counts down, the Lace tick counter advances, a DELAY
counts, a function switch goes through its cycles and QWDOG counts on XIN, unless the device is held in reset
or EC7 stands still. -/
def Obligations.IdleCycle : Prop :=
  ∀ (s : State), s.pending = [] →
    let w := s.hk.qwdog
    (s.inReset = true → step s = .next s) ∧
    (s.inReset = false → s.ecRuns 7 = false → (s.cfg.boot ≠ .reset ∨ s.cfg.status ≠ 0) → step s = .next s) ∧
    (s.inReset = false → s.ecRuns 7 = true → (w.en = false ∨ s.quince.dbgHalted = true) →
      (s.core 128).haltPend = false → (s.core 128).stepping = false →
      ∃ t, step s = .next t ∧ t.time = s.time + 1 ∧ t.pending = [] ∧ t.hk.qwdog = w ∧
      (∀ n, s.cfg.seqPhase = .delay n → t.cfg.seqPhase = if n ≤ 1 then .ready else .delay (n - 1)) ∧
      (s.cfg.boot = .done → s.cfg.seqPhase = .finished →
        (∀ n, n < 4 → (s.timer n).en = true → 1 < (s.timer n).count.toNat → (s.timer n).nextCount = none →
          t.timer n = { s.timer n with count := (s.timer n).count - 1 }) ∧
        (∀ n, n < 4 → (s.timer n).en = true → (s.timer n).count = 1 → (s.timer n).nextCount = none →
          t.timer n = { s.timer n with
            count := if (s.timer n).periodic then (s.timer n).load else 0, expired := true }) ∧
        (∀ k, k < 128 → 1 < (s.tile k).timerCount.toNat →
          (t.tile k).timerCount = (s.tile k).timerCount - 1) ∧
        (∀ p, p < 576 → (s.pin p).sw.next = none → (t.pin p).sw.cycle =
          match (s.pin p).sw.cycle with | 1 => 2 | 2 => 3 | 3 => 4 | _ => 0)) ∧
      (s.lace.tickCount + 1 < s.lace.tickDiv.toNat → t.lace.tickCount = s.lace.tickCount + 1)) ∧
    (s.inReset = false → s.ecRuns 7 = true → s.clk.rootLock = false → w.en = true → s.quince.dbgHalted = false →
      (s.core 128).haltPend = false → (s.core 128).stepping = false →
      let ms := 25000 * 2 ^ 20
      let ran := (w.running - w.remaining) * ms + w.frac + 2 ^ 20
      ran / ms < w.running → ∃ t, step s = .next t ∧ t.time = s.time + 1 ∧
        t.hk.qwdog.remaining = w.running - ran / ms ∧ t.hk.qwdog.frac = ran % ms)
end

