-- ==== Sys2Proof/Laws/Maps.lean ====
section
/-! SUPPORT. The laws of sparse tables: a read after a write, and the canonical form. -/

namespace Sys2Proof.Machine.SMap

variable {α : Type}

theorem read_erase (d : Nat → α) (m : List (Nat × α)) (k j : Nat) :
    read d (erase m k) j = if j = k then d j else read d m j := by
  induction m with
  | nil => simp [erase, read]
  | cons p r ih =>
    obtain ⟨i, v⟩ := p
    by_cases h : i = k
    · subst h; simp only [erase, if_true, ih, read]; grind
    · simp only [erase, if_neg h, read, ih]; grind

theorem read_insert (d : Nat → α) (m : List (Nat × α)) (k j : Nat) (v : α)
    (h : ∀ p ∈ m, p.1 ≠ k) : read d (insert m k v) j = if j = k then v else read d m j := by
  induction m with
  | nil => simp [insert, read, eq_comm]
  | cons p r ih =>
    obtain ⟨i, w⟩ := p
    have hi : i ≠ k := h _ (List.mem_cons_self ..)
    have hr := ih (fun q hq => h q (List.mem_cons_of_mem _ hq))
    simp only [insert]
    split
    · simp only [read]; grind
    · simp only [read, hr]; grind

theorem mem_erase_ne (m : List (Nat × α)) (k : Nat) : ∀ p ∈ erase m k, p.1 ≠ k := by
  induction m with
  | nil => simp [erase]
  | cons p r ih =>
    obtain ⟨i, v⟩ := p
    simp only [erase]
    split
    · exact ih
    · intro q hq
      rcases List.mem_cons.mp hq with rfl | hq
      · assumption
      · exact ih q hq

/-- A read after a write: the value written, or what was there. -/
theorem read_write [DecidableEq α] (d : Nat → α) (m : List (Nat × α)) (k j : Nat) (v : α) :
    read d (write d m k v) j = if j = k then v else read d m j := by
  unfold write
  split
  · rename_i h
    rw [read_erase]
    by_cases hj : j = k
    · subst hj; simp [h]
    · simp [hj]
  · rw [read_insert _ _ _ _ _ (mem_erase_ne m k), read_erase]
    by_cases hj : j = k <;> simp [hj]

theorem wfFrom_mono [DecidableEq α] (d : Nat → α) {a b : Nat} (hab : a ≤ b) :
    ∀ m : List (Nat × α), wfFrom d b m = true → wfFrom d a m = true
  | [], _ => rfl
  | (i, v) :: r, h => by
    simp only [wfFrom, Bool.and_eq_true, decide_eq_true_eq] at h ⊢
    exact ⟨⟨le_trans hab h.1.1, h.1.2⟩, h.2⟩

theorem wfFrom_erase [DecidableEq α] (d : Nat → α) (k : Nat) :
    ∀ (lo : Nat) (m : List (Nat × α)), wfFrom d lo m = true → wfFrom d lo (erase m k) = true
  | _, [], _ => rfl
  | lo, (i, v) :: r, h => by
    simp only [wfFrom, Bool.and_eq_true, decide_eq_true_eq] at h
    have hr := wfFrom_erase d k (i + 1) r h.2
    simp only [erase]
    split
    · exact wfFrom_mono d (by omega) _ hr
    · simp only [wfFrom, Bool.and_eq_true, decide_eq_true_eq]
      exact ⟨h.1, hr⟩

theorem wfFrom_insert [DecidableEq α] (d : Nat → α) (k : Nat) (v : α) (hv : v ≠ d k) :
    ∀ (lo : Nat) (m : List (Nat × α)), lo ≤ k → (∀ p ∈ m, p.1 ≠ k) → wfFrom d lo m = true →
      wfFrom d lo (insert m k v) = true
  | lo, [], hk, _, _ => by simp [insert, wfFrom, hk, hv]
  | lo, (i, w) :: r, hk, hn, h => by
    have hi : i ≠ k := hn _ (List.mem_cons_self ..)
    simp only [wfFrom, Bool.and_eq_true, decide_eq_true_eq] at h
    simp only [insert]
    split
    · simp only [wfFrom, Bool.and_eq_true, decide_eq_true_eq]
      exact ⟨⟨hk, hv⟩, ⟨by omega, h.1.2⟩, h.2⟩
    · simp only [wfFrom, Bool.and_eq_true, decide_eq_true_eq]
      exact ⟨h.1, wfFrom_insert d k v hv (i + 1) r (by omega)
        (fun q hq => hn q (List.mem_cons_of_mem _ hq)) h.2⟩

/-- A write keeps the canonical form. -/
theorem wf_write [DecidableEq α] (d : Nat → α) (m : List (Nat × α)) (k : Nat) (v : α)
    (h : wf d m = true) : wf d (write d m k v) = true := by
  unfold write
  split
  · exact wfFrom_erase d k 0 m h
  · rename_i hv
    exact wfFrom_insert d k v hv 0 _ (Nat.zero_le k) (mem_erase_ne m k) (wfFrom_erase d k 0 m h)

theorem wfFrom_filter [DecidableEq α] (d : Nat → α) (f : Nat × α → Bool) :
    ∀ (lo : Nat) (m : List (Nat × α)), wfFrom d lo m = true → wfFrom d lo (m.filter f) = true
  | _, [], _ => rfl
  | lo, (i, v) :: r, h => by
    simp only [wfFrom, Bool.and_eq_true, decide_eq_true_eq] at h
    have hr := wfFrom_filter d f (i + 1) r h.2
    simp only [List.filter_cons]
    split
    · simp only [wfFrom, Bool.and_eq_true, decide_eq_true_eq]
      exact ⟨h.1, hr⟩
    · exact wfFrom_mono d (by omega) _ hr

/-- Leaving pairs out keeps the canonical form. -/
theorem wf_filter [DecidableEq α] (d : Nat → α) (f : Nat × α → Bool) (m : List (Nat × α))
    (h : wf d m = true) : wf d (m.filter f) = true := wfFrom_filter d f 0 m h

theorem rises_mono {a b : Nat} (hab : a ≤ b) :
    ∀ m : List (Nat × α), rises b m = true → rises a m = true
  | [], _ => rfl
  | (i, v) :: r, h => by
    simp only [rises, Bool.and_eq_true, decide_eq_true_eq] at h ⊢
    exact ⟨le_trans hab h.1, h.2⟩

theorem rises_erase (k : Nat) :
    ∀ (lo : Nat) (m : List (Nat × α)), rises lo m = true → rises lo (erase m k) = true
  | _, [], _ => rfl
  | lo, (i, v) :: r, h => by
    simp only [rises, Bool.and_eq_true, decide_eq_true_eq] at h
    have hr := rises_erase k (i + 1) r h.2
    simp only [erase]
    split
    · exact rises_mono (by omega) _ hr
    · simp only [rises, Bool.and_eq_true, decide_eq_true_eq]
      exact ⟨h.1, hr⟩

theorem rises_insert (k : Nat) (v : α) :
    ∀ (lo : Nat) (m : List (Nat × α)), lo ≤ k → (∀ p ∈ m, p.1 ≠ k) → rises lo m = true →
      rises lo (insert m k v) = true
  | lo, [], hk, _, _ => by simp [insert, rises, hk]
  | lo, (i, w) :: r, hk, hn, h => by
    have hi : i ≠ k := hn _ (List.mem_cons_self ..)
    simp only [rises, Bool.and_eq_true, decide_eq_true_eq] at h
    simp only [insert]
    split
    · simp only [rises, Bool.and_eq_true, decide_eq_true_eq]
      exact ⟨hk, by omega, h.2⟩
    · simp only [rises, Bool.and_eq_true, decide_eq_true_eq]
      exact ⟨h.1, rises_insert k v (i + 1) r (by omega)
        (fun q hq => hn q (List.mem_cons_of_mem _ hq)) h.2⟩

/-- Putting a pair in place of another keeps the numbers rising. -/
theorem rises_put (m : List (Nat × α)) (k : Nat) (v : α) (h : rises 0 m = true) :
    rises 0 (insert (erase m k) k v) = true :=
  rises_insert k v 0 _ (Nat.zero_le k) (mem_erase_ne m k) (rises_erase k 0 m h)

theorem rises_filter (f : Nat × α → Bool) :
    ∀ (lo : Nat) (m : List (Nat × α)), rises lo m = true → rises lo (m.filter f) = true
  | _, [], _ => rfl
  | lo, (i, v) :: r, h => by
    simp only [rises, Bool.and_eq_true, decide_eq_true_eq] at h
    have hr := rises_filter f (i + 1) r h.2
    simp only [List.filter_cons]
    split
    · simp only [rises, Bool.and_eq_true, decide_eq_true_eq]
      exact ⟨h.1, hr⟩
    · exact rises_mono (by omega) _ hr

end Sys2Proof.Machine.SMap
end

