-- ==== Sys2Proof/Laws/State.lean ====
section
/-! SUPPORT. One lemma per field per update of a numbered part: what an update leaves alone, and what a
read of a part gives after it. Each says no more than its name. -/

namespace Sys2Proof.Machine
namespace State

variable (s : State) (k j : Nat)


/-! ### core -/

@[simp] theorem modCore_eq (f : Core → Core) : s.modCore k f = s.setCore k (f (s.core k)) := rfl
@[simp] theorem setCore_pending (v : Core) : (s.setCore k v).pending = s.pending := rfl
@[simp] theorem setCore_time (v : Core) : (s.setCore k v).time = s.time := rfl
@[simp] theorem setCore_freeCtr (v : Core) : (s.setCore k v).freeCtr = s.freeCtr := rfl
@[simp] theorem setCore_memEpoch (v : Core) : (s.setCore k v).memEpoch = s.memEpoch := rfl
@[simp] theorem setCore_mem (v : Core) : (s.setCore k v).mem = s.mem := rfl
@[simp] theorem setCore_quince (v : Core) : (s.setCore k v).quince = s.quince := rfl
@[simp] theorem setCore_tiles (v : Core) : (s.setCore k v).tiles = s.tiles := rfl
@[simp] theorem setCore_wires (v : Core) : (s.setCore k v).wires = s.wires := rfl
@[simp] theorem setCore_pacers (v : Core) : (s.setCore k v).pacers = s.pacers := rfl
@[simp] theorem setCore_lace (v : Core) : (s.setCore k v).lace = s.lace := rfl
@[simp] theorem setCore_tapQueue (v : Core) : (s.setCore k v).tapQueue = s.tapQueue := rfl
@[simp] theorem setCore_seams (v : Core) : (s.setCore k v).seams = s.seams := rfl
@[simp] theorem setCore_clk (v : Core) : (s.setCore k v).clk = s.clk := rfl
@[simp] theorem setCore_pins (v : Core) : (s.setCore k v).pins = s.pins := rfl
@[simp] theorem setCore_cfg (v : Core) : (s.setCore k v).cfg = s.cfg := rfl
@[simp] theorem setCore_intc (v : Core) : (s.setCore k v).intc = s.intc := rfl
@[simp] theorem setCore_hk (v : Core) : (s.setCore k v).hk = s.hk := rfl
@[simp] theorem setCore_pwr (v : Core) : (s.setCore k v).pwr = s.pwr := rfl
@[simp] theorem setCore_flt (v : Core) : (s.setCore k v).flt = s.flt := rfl
@[simp] theorem setCore_dev (v : Core) : (s.setCore k v).dev = s.dev := rfl
@[simp] theorem setCore_bist (v : Core) : (s.setCore k v).bist = s.bist := rfl
@[simp] theorem setCore_pert (v : Core) : (s.setCore k v).pert = s.pert := rfl
@[simp] theorem setCore_jtag (v : Core) : (s.setCore k v).jtag = s.jtag := rfl
@[simp] theorem setCore_core (v : Core) : (s.setCore k v).core j = if j = k then v else s.core j :=
  SMap.read_write _ _ _ _ _
@[simp] theorem setCore_tile (v : Core) : (s.setCore k v).tile j = s.tile j := rfl
@[simp] theorem setCore_pacer (v : Core) : (s.setCore k v).pacer j = s.pacer j := rfl
@[simp] theorem setCore_seam (v : Core) : (s.setCore k v).seam j = s.seam j := rfl
@[simp] theorem setCore_node (v : Core) : (s.setCore k v).node j = s.node j := rfl
@[simp] theorem setCore_turn (v : Core) : (s.setCore k v).turn j = s.turn j := rfl
@[simp] theorem setCore_desc (v : Core) : (s.setCore k v).desc j = s.desc j := rfl
@[simp] theorem setCore_req (v : Core) : (s.setCore k v).req j = s.req j := rfl
@[simp] theorem setCore_ec (v : Core) : (s.setCore k v).ec j = s.ec j := rfl
@[simp] theorem setCore_phase (v : Core) : (s.setCore k v).phase j = s.phase j := rfl
@[simp] theorem setCore_pin (v : Core) : (s.setCore k v).pin j = s.pin j := rfl
@[simp] theorem setCore_pinBank (v : Core) : (s.setCore k v).pinBank j = s.pinBank j := rfl
@[simp] theorem setCore_region (v : Core) : (s.setCore k v).region j = s.region j := rfl
@[simp] theorem setCore_frame (v : Core) : (s.setCore k v).frame j = s.frame j := rfl
@[simp] theorem setCore_uart (v : Core) : (s.setCore k v).uart j = s.uart j := rfl
@[simp] theorem setCore_spi (v : Core) : (s.setCore k v).spi j = s.spi j := rfl
@[simp] theorem setCore_i2c (v : Core) : (s.setCore k v).i2c j = s.i2c j := rfl
@[simp] theorem setCore_timer (v : Core) : (s.setCore k v).timer j = s.timer j := rfl

/-! ### tile -/

@[simp] theorem modTile_eq (f : Tile → Tile) : s.modTile k f = s.setTile k (f (s.tile k)) := rfl
@[simp] theorem setTile_pending (v : Tile) : (s.setTile k v).pending = s.pending := rfl
@[simp] theorem setTile_time (v : Tile) : (s.setTile k v).time = s.time := rfl
@[simp] theorem setTile_freeCtr (v : Tile) : (s.setTile k v).freeCtr = s.freeCtr := rfl
@[simp] theorem setTile_memEpoch (v : Tile) : (s.setTile k v).memEpoch = s.memEpoch := rfl
@[simp] theorem setTile_mem (v : Tile) : (s.setTile k v).mem = s.mem := rfl
@[simp] theorem setTile_cores (v : Tile) : (s.setTile k v).cores = s.cores := rfl
@[simp] theorem setTile_quince (v : Tile) : (s.setTile k v).quince = s.quince := rfl
@[simp] theorem setTile_wires (v : Tile) : (s.setTile k v).wires = s.wires := rfl
@[simp] theorem setTile_pacers (v : Tile) : (s.setTile k v).pacers = s.pacers := rfl
@[simp] theorem setTile_lace (v : Tile) : (s.setTile k v).lace = s.lace := rfl
@[simp] theorem setTile_tapQueue (v : Tile) : (s.setTile k v).tapQueue = s.tapQueue := rfl
@[simp] theorem setTile_seams (v : Tile) : (s.setTile k v).seams = s.seams := rfl
@[simp] theorem setTile_clk (v : Tile) : (s.setTile k v).clk = s.clk := rfl
@[simp] theorem setTile_pins (v : Tile) : (s.setTile k v).pins = s.pins := rfl
@[simp] theorem setTile_cfg (v : Tile) : (s.setTile k v).cfg = s.cfg := rfl
@[simp] theorem setTile_intc (v : Tile) : (s.setTile k v).intc = s.intc := rfl
@[simp] theorem setTile_hk (v : Tile) : (s.setTile k v).hk = s.hk := rfl
@[simp] theorem setTile_pwr (v : Tile) : (s.setTile k v).pwr = s.pwr := rfl
@[simp] theorem setTile_flt (v : Tile) : (s.setTile k v).flt = s.flt := rfl
@[simp] theorem setTile_dev (v : Tile) : (s.setTile k v).dev = s.dev := rfl
@[simp] theorem setTile_bist (v : Tile) : (s.setTile k v).bist = s.bist := rfl
@[simp] theorem setTile_pert (v : Tile) : (s.setTile k v).pert = s.pert := rfl
@[simp] theorem setTile_jtag (v : Tile) : (s.setTile k v).jtag = s.jtag := rfl
@[simp] theorem setTile_core (v : Tile) : (s.setTile k v).core j = s.core j := rfl
@[simp] theorem setTile_tile (v : Tile) : (s.setTile k v).tile j = if j = k then v else s.tile j :=
  SMap.read_write _ _ _ _ _
@[simp] theorem setTile_pacer (v : Tile) : (s.setTile k v).pacer j = s.pacer j := rfl
@[simp] theorem setTile_seam (v : Tile) : (s.setTile k v).seam j = s.seam j := rfl
@[simp] theorem setTile_node (v : Tile) : (s.setTile k v).node j = s.node j := rfl
@[simp] theorem setTile_turn (v : Tile) : (s.setTile k v).turn j = s.turn j := rfl
@[simp] theorem setTile_desc (v : Tile) : (s.setTile k v).desc j = s.desc j := rfl
@[simp] theorem setTile_req (v : Tile) : (s.setTile k v).req j = s.req j := rfl
@[simp] theorem setTile_ec (v : Tile) : (s.setTile k v).ec j = s.ec j := rfl
@[simp] theorem setTile_phase (v : Tile) : (s.setTile k v).phase j = s.phase j := rfl
@[simp] theorem setTile_pin (v : Tile) : (s.setTile k v).pin j = s.pin j := rfl
@[simp] theorem setTile_pinBank (v : Tile) : (s.setTile k v).pinBank j = s.pinBank j := rfl
@[simp] theorem setTile_region (v : Tile) : (s.setTile k v).region j = s.region j := rfl
@[simp] theorem setTile_frame (v : Tile) : (s.setTile k v).frame j = s.frame j := rfl
@[simp] theorem setTile_uart (v : Tile) : (s.setTile k v).uart j = s.uart j := rfl
@[simp] theorem setTile_spi (v : Tile) : (s.setTile k v).spi j = s.spi j := rfl
@[simp] theorem setTile_i2c (v : Tile) : (s.setTile k v).i2c j = s.i2c j := rfl
@[simp] theorem setTile_timer (v : Tile) : (s.setTile k v).timer j = s.timer j := rfl

/-! ### pacer -/

@[simp] theorem modPacer_eq (f : Pacer → Pacer) : s.modPacer k f = s.setPacer k (f (s.pacer k)) := rfl
@[simp] theorem setPacer_pending (v : Pacer) : (s.setPacer k v).pending = s.pending := rfl
@[simp] theorem setPacer_time (v : Pacer) : (s.setPacer k v).time = s.time := rfl
@[simp] theorem setPacer_freeCtr (v : Pacer) : (s.setPacer k v).freeCtr = s.freeCtr := rfl
@[simp] theorem setPacer_memEpoch (v : Pacer) : (s.setPacer k v).memEpoch = s.memEpoch := rfl
@[simp] theorem setPacer_mem (v : Pacer) : (s.setPacer k v).mem = s.mem := rfl
@[simp] theorem setPacer_cores (v : Pacer) : (s.setPacer k v).cores = s.cores := rfl
@[simp] theorem setPacer_quince (v : Pacer) : (s.setPacer k v).quince = s.quince := rfl
@[simp] theorem setPacer_tiles (v : Pacer) : (s.setPacer k v).tiles = s.tiles := rfl
@[simp] theorem setPacer_wires (v : Pacer) : (s.setPacer k v).wires = s.wires := rfl
@[simp] theorem setPacer_lace (v : Pacer) : (s.setPacer k v).lace = s.lace := rfl
@[simp] theorem setPacer_tapQueue (v : Pacer) : (s.setPacer k v).tapQueue = s.tapQueue := rfl
@[simp] theorem setPacer_seams (v : Pacer) : (s.setPacer k v).seams = s.seams := rfl
@[simp] theorem setPacer_clk (v : Pacer) : (s.setPacer k v).clk = s.clk := rfl
@[simp] theorem setPacer_pins (v : Pacer) : (s.setPacer k v).pins = s.pins := rfl
@[simp] theorem setPacer_cfg (v : Pacer) : (s.setPacer k v).cfg = s.cfg := rfl
@[simp] theorem setPacer_intc (v : Pacer) : (s.setPacer k v).intc = s.intc := rfl
@[simp] theorem setPacer_hk (v : Pacer) : (s.setPacer k v).hk = s.hk := rfl
@[simp] theorem setPacer_pwr (v : Pacer) : (s.setPacer k v).pwr = s.pwr := rfl
@[simp] theorem setPacer_flt (v : Pacer) : (s.setPacer k v).flt = s.flt := rfl
@[simp] theorem setPacer_dev (v : Pacer) : (s.setPacer k v).dev = s.dev := rfl
@[simp] theorem setPacer_bist (v : Pacer) : (s.setPacer k v).bist = s.bist := rfl
@[simp] theorem setPacer_pert (v : Pacer) : (s.setPacer k v).pert = s.pert := rfl
@[simp] theorem setPacer_jtag (v : Pacer) : (s.setPacer k v).jtag = s.jtag := rfl
@[simp] theorem setPacer_core (v : Pacer) : (s.setPacer k v).core j = s.core j := rfl
@[simp] theorem setPacer_tile (v : Pacer) : (s.setPacer k v).tile j = s.tile j := rfl
@[simp] theorem setPacer_pacer (v : Pacer) : (s.setPacer k v).pacer j = if j = k then v else s.pacer j :=
  SMap.read_write _ _ _ _ _
@[simp] theorem setPacer_seam (v : Pacer) : (s.setPacer k v).seam j = s.seam j := rfl
@[simp] theorem setPacer_node (v : Pacer) : (s.setPacer k v).node j = s.node j := rfl
@[simp] theorem setPacer_turn (v : Pacer) : (s.setPacer k v).turn j = s.turn j := rfl
@[simp] theorem setPacer_desc (v : Pacer) : (s.setPacer k v).desc j = s.desc j := rfl
@[simp] theorem setPacer_req (v : Pacer) : (s.setPacer k v).req j = s.req j := rfl
@[simp] theorem setPacer_ec (v : Pacer) : (s.setPacer k v).ec j = s.ec j := rfl
@[simp] theorem setPacer_phase (v : Pacer) : (s.setPacer k v).phase j = s.phase j := rfl
@[simp] theorem setPacer_pin (v : Pacer) : (s.setPacer k v).pin j = s.pin j := rfl
@[simp] theorem setPacer_pinBank (v : Pacer) : (s.setPacer k v).pinBank j = s.pinBank j := rfl
@[simp] theorem setPacer_region (v : Pacer) : (s.setPacer k v).region j = s.region j := rfl
@[simp] theorem setPacer_frame (v : Pacer) : (s.setPacer k v).frame j = s.frame j := rfl
@[simp] theorem setPacer_uart (v : Pacer) : (s.setPacer k v).uart j = s.uart j := rfl
@[simp] theorem setPacer_spi (v : Pacer) : (s.setPacer k v).spi j = s.spi j := rfl
@[simp] theorem setPacer_i2c (v : Pacer) : (s.setPacer k v).i2c j = s.i2c j := rfl
@[simp] theorem setPacer_timer (v : Pacer) : (s.setPacer k v).timer j = s.timer j := rfl

/-! ### seam -/

@[simp] theorem modSeam_eq (f : Seam → Seam) : s.modSeam k f = s.setSeam k (f (s.seam k)) := rfl
@[simp] theorem setSeam_pending (v : Seam) : (s.setSeam k v).pending = s.pending := rfl
@[simp] theorem setSeam_time (v : Seam) : (s.setSeam k v).time = s.time := rfl
@[simp] theorem setSeam_freeCtr (v : Seam) : (s.setSeam k v).freeCtr = s.freeCtr := rfl
@[simp] theorem setSeam_memEpoch (v : Seam) : (s.setSeam k v).memEpoch = s.memEpoch := rfl
@[simp] theorem setSeam_mem (v : Seam) : (s.setSeam k v).mem = s.mem := rfl
@[simp] theorem setSeam_cores (v : Seam) : (s.setSeam k v).cores = s.cores := rfl
@[simp] theorem setSeam_quince (v : Seam) : (s.setSeam k v).quince = s.quince := rfl
@[simp] theorem setSeam_tiles (v : Seam) : (s.setSeam k v).tiles = s.tiles := rfl
@[simp] theorem setSeam_wires (v : Seam) : (s.setSeam k v).wires = s.wires := rfl
@[simp] theorem setSeam_pacers (v : Seam) : (s.setSeam k v).pacers = s.pacers := rfl
@[simp] theorem setSeam_lace (v : Seam) : (s.setSeam k v).lace = s.lace := rfl
@[simp] theorem setSeam_tapQueue (v : Seam) : (s.setSeam k v).tapQueue = s.tapQueue := rfl
@[simp] theorem setSeam_clk (v : Seam) : (s.setSeam k v).clk = s.clk := rfl
@[simp] theorem setSeam_pins (v : Seam) : (s.setSeam k v).pins = s.pins := rfl
@[simp] theorem setSeam_cfg (v : Seam) : (s.setSeam k v).cfg = s.cfg := rfl
@[simp] theorem setSeam_intc (v : Seam) : (s.setSeam k v).intc = s.intc := rfl
@[simp] theorem setSeam_hk (v : Seam) : (s.setSeam k v).hk = s.hk := rfl
@[simp] theorem setSeam_pwr (v : Seam) : (s.setSeam k v).pwr = s.pwr := rfl
@[simp] theorem setSeam_flt (v : Seam) : (s.setSeam k v).flt = s.flt := rfl
@[simp] theorem setSeam_dev (v : Seam) : (s.setSeam k v).dev = s.dev := rfl
@[simp] theorem setSeam_bist (v : Seam) : (s.setSeam k v).bist = s.bist := rfl
@[simp] theorem setSeam_pert (v : Seam) : (s.setSeam k v).pert = s.pert := rfl
@[simp] theorem setSeam_jtag (v : Seam) : (s.setSeam k v).jtag = s.jtag := rfl
@[simp] theorem setSeam_core (v : Seam) : (s.setSeam k v).core j = s.core j := rfl
@[simp] theorem setSeam_tile (v : Seam) : (s.setSeam k v).tile j = s.tile j := rfl
@[simp] theorem setSeam_pacer (v : Seam) : (s.setSeam k v).pacer j = s.pacer j := rfl
@[simp] theorem setSeam_seam (v : Seam) : (s.setSeam k v).seam j = if j = k then v else s.seam j :=
  SMap.read_write _ _ _ _ _
@[simp] theorem setSeam_node (v : Seam) : (s.setSeam k v).node j = s.node j := rfl
@[simp] theorem setSeam_turn (v : Seam) : (s.setSeam k v).turn j = s.turn j := rfl
@[simp] theorem setSeam_desc (v : Seam) : (s.setSeam k v).desc j = s.desc j := rfl
@[simp] theorem setSeam_req (v : Seam) : (s.setSeam k v).req j = s.req j := rfl
@[simp] theorem setSeam_ec (v : Seam) : (s.setSeam k v).ec j = s.ec j := rfl
@[simp] theorem setSeam_phase (v : Seam) : (s.setSeam k v).phase j = s.phase j := rfl
@[simp] theorem setSeam_pin (v : Seam) : (s.setSeam k v).pin j = s.pin j := rfl
@[simp] theorem setSeam_pinBank (v : Seam) : (s.setSeam k v).pinBank j = s.pinBank j := rfl
@[simp] theorem setSeam_region (v : Seam) : (s.setSeam k v).region j = s.region j := rfl
@[simp] theorem setSeam_frame (v : Seam) : (s.setSeam k v).frame j = s.frame j := rfl
@[simp] theorem setSeam_uart (v : Seam) : (s.setSeam k v).uart j = s.uart j := rfl
@[simp] theorem setSeam_spi (v : Seam) : (s.setSeam k v).spi j = s.spi j := rfl
@[simp] theorem setSeam_i2c (v : Seam) : (s.setSeam k v).i2c j = s.i2c j := rfl
@[simp] theorem setSeam_timer (v : Seam) : (s.setSeam k v).timer j = s.timer j := rfl

/-! ### node -/

@[simp] theorem modNode_eq (f : Node → Node) : s.modNode k f = s.setNode k (f (s.node k)) := rfl
@[simp] theorem setNode_pending (v : Node) : (s.setNode k v).pending = s.pending := rfl
@[simp] theorem setNode_time (v : Node) : (s.setNode k v).time = s.time := rfl
@[simp] theorem setNode_freeCtr (v : Node) : (s.setNode k v).freeCtr = s.freeCtr := rfl
@[simp] theorem setNode_memEpoch (v : Node) : (s.setNode k v).memEpoch = s.memEpoch := rfl
@[simp] theorem setNode_mem (v : Node) : (s.setNode k v).mem = s.mem := rfl
@[simp] theorem setNode_cores (v : Node) : (s.setNode k v).cores = s.cores := rfl
@[simp] theorem setNode_quince (v : Node) : (s.setNode k v).quince = s.quince := rfl
@[simp] theorem setNode_tiles (v : Node) : (s.setNode k v).tiles = s.tiles := rfl
@[simp] theorem setNode_pacers (v : Node) : (s.setNode k v).pacers = s.pacers := rfl
@[simp] theorem setNode_lace (v : Node) : (s.setNode k v).lace = s.lace := rfl
@[simp] theorem setNode_tapQueue (v : Node) : (s.setNode k v).tapQueue = s.tapQueue := rfl
@[simp] theorem setNode_seams (v : Node) : (s.setNode k v).seams = s.seams := rfl
@[simp] theorem setNode_clk (v : Node) : (s.setNode k v).clk = s.clk := rfl
@[simp] theorem setNode_pins (v : Node) : (s.setNode k v).pins = s.pins := rfl
@[simp] theorem setNode_cfg (v : Node) : (s.setNode k v).cfg = s.cfg := rfl
@[simp] theorem setNode_intc (v : Node) : (s.setNode k v).intc = s.intc := rfl
@[simp] theorem setNode_hk (v : Node) : (s.setNode k v).hk = s.hk := rfl
@[simp] theorem setNode_pwr (v : Node) : (s.setNode k v).pwr = s.pwr := rfl
@[simp] theorem setNode_flt (v : Node) : (s.setNode k v).flt = s.flt := rfl
@[simp] theorem setNode_dev (v : Node) : (s.setNode k v).dev = s.dev := rfl
@[simp] theorem setNode_bist (v : Node) : (s.setNode k v).bist = s.bist := rfl
@[simp] theorem setNode_pert (v : Node) : (s.setNode k v).pert = s.pert := rfl
@[simp] theorem setNode_jtag (v : Node) : (s.setNode k v).jtag = s.jtag := rfl
@[simp] theorem setNode_core (v : Node) : (s.setNode k v).core j = s.core j := rfl
@[simp] theorem setNode_tile (v : Node) : (s.setNode k v).tile j = s.tile j := rfl
@[simp] theorem setNode_pacer (v : Node) : (s.setNode k v).pacer j = s.pacer j := rfl
@[simp] theorem setNode_seam (v : Node) : (s.setNode k v).seam j = s.seam j := rfl
@[simp] theorem setNode_node (v : Node) : (s.setNode k v).node j = if j = k then v else s.node j :=
  SMap.read_write _ _ _ _ _
@[simp] theorem setNode_turn (v : Node) : (s.setNode k v).turn j = s.turn j := rfl
@[simp] theorem setNode_desc (v : Node) : (s.setNode k v).desc j = s.desc j := rfl
@[simp] theorem setNode_req (v : Node) : (s.setNode k v).req j = s.req j := rfl
@[simp] theorem setNode_ec (v : Node) : (s.setNode k v).ec j = s.ec j := rfl
@[simp] theorem setNode_phase (v : Node) : (s.setNode k v).phase j = s.phase j := rfl
@[simp] theorem setNode_pin (v : Node) : (s.setNode k v).pin j = s.pin j := rfl
@[simp] theorem setNode_pinBank (v : Node) : (s.setNode k v).pinBank j = s.pinBank j := rfl
@[simp] theorem setNode_region (v : Node) : (s.setNode k v).region j = s.region j := rfl
@[simp] theorem setNode_frame (v : Node) : (s.setNode k v).frame j = s.frame j := rfl
@[simp] theorem setNode_uart (v : Node) : (s.setNode k v).uart j = s.uart j := rfl
@[simp] theorem setNode_spi (v : Node) : (s.setNode k v).spi j = s.spi j := rfl
@[simp] theorem setNode_i2c (v : Node) : (s.setNode k v).i2c j = s.i2c j := rfl
@[simp] theorem setNode_timer (v : Node) : (s.setNode k v).timer j = s.timer j := rfl

/-! ### turn -/

@[simp] theorem modTurn_eq (f : MemTurn → MemTurn) : s.modTurn k f = s.setTurn k (f (s.turn k)) := rfl
@[simp] theorem setTurn_pending (v : MemTurn) : (s.setTurn k v).pending = s.pending := rfl
@[simp] theorem setTurn_time (v : MemTurn) : (s.setTurn k v).time = s.time := rfl
@[simp] theorem setTurn_freeCtr (v : MemTurn) : (s.setTurn k v).freeCtr = s.freeCtr := rfl
@[simp] theorem setTurn_memEpoch (v : MemTurn) : (s.setTurn k v).memEpoch = s.memEpoch := rfl
@[simp] theorem setTurn_mem (v : MemTurn) : (s.setTurn k v).mem = s.mem := rfl
@[simp] theorem setTurn_cores (v : MemTurn) : (s.setTurn k v).cores = s.cores := rfl
@[simp] theorem setTurn_quince (v : MemTurn) : (s.setTurn k v).quince = s.quince := rfl
@[simp] theorem setTurn_tiles (v : MemTurn) : (s.setTurn k v).tiles = s.tiles := rfl
@[simp] theorem setTurn_pacers (v : MemTurn) : (s.setTurn k v).pacers = s.pacers := rfl
@[simp] theorem setTurn_lace (v : MemTurn) : (s.setTurn k v).lace = s.lace := rfl
@[simp] theorem setTurn_tapQueue (v : MemTurn) : (s.setTurn k v).tapQueue = s.tapQueue := rfl
@[simp] theorem setTurn_seams (v : MemTurn) : (s.setTurn k v).seams = s.seams := rfl
@[simp] theorem setTurn_clk (v : MemTurn) : (s.setTurn k v).clk = s.clk := rfl
@[simp] theorem setTurn_pins (v : MemTurn) : (s.setTurn k v).pins = s.pins := rfl
@[simp] theorem setTurn_cfg (v : MemTurn) : (s.setTurn k v).cfg = s.cfg := rfl
@[simp] theorem setTurn_intc (v : MemTurn) : (s.setTurn k v).intc = s.intc := rfl
@[simp] theorem setTurn_hk (v : MemTurn) : (s.setTurn k v).hk = s.hk := rfl
@[simp] theorem setTurn_pwr (v : MemTurn) : (s.setTurn k v).pwr = s.pwr := rfl
@[simp] theorem setTurn_flt (v : MemTurn) : (s.setTurn k v).flt = s.flt := rfl
@[simp] theorem setTurn_dev (v : MemTurn) : (s.setTurn k v).dev = s.dev := rfl
@[simp] theorem setTurn_bist (v : MemTurn) : (s.setTurn k v).bist = s.bist := rfl
@[simp] theorem setTurn_pert (v : MemTurn) : (s.setTurn k v).pert = s.pert := rfl
@[simp] theorem setTurn_jtag (v : MemTurn) : (s.setTurn k v).jtag = s.jtag := rfl
@[simp] theorem setTurn_core (v : MemTurn) : (s.setTurn k v).core j = s.core j := rfl
@[simp] theorem setTurn_tile (v : MemTurn) : (s.setTurn k v).tile j = s.tile j := rfl
@[simp] theorem setTurn_pacer (v : MemTurn) : (s.setTurn k v).pacer j = s.pacer j := rfl
@[simp] theorem setTurn_seam (v : MemTurn) : (s.setTurn k v).seam j = s.seam j := rfl
@[simp] theorem setTurn_node (v : MemTurn) : (s.setTurn k v).node j = s.node j := rfl
@[simp] theorem setTurn_turn (v : MemTurn) : (s.setTurn k v).turn j = if j = k then v else s.turn j :=
  SMap.read_write _ _ _ _ _
@[simp] theorem setTurn_desc (v : MemTurn) : (s.setTurn k v).desc j = s.desc j := rfl
@[simp] theorem setTurn_req (v : MemTurn) : (s.setTurn k v).req j = s.req j := rfl
@[simp] theorem setTurn_ec (v : MemTurn) : (s.setTurn k v).ec j = s.ec j := rfl
@[simp] theorem setTurn_phase (v : MemTurn) : (s.setTurn k v).phase j = s.phase j := rfl
@[simp] theorem setTurn_pin (v : MemTurn) : (s.setTurn k v).pin j = s.pin j := rfl
@[simp] theorem setTurn_pinBank (v : MemTurn) : (s.setTurn k v).pinBank j = s.pinBank j := rfl
@[simp] theorem setTurn_region (v : MemTurn) : (s.setTurn k v).region j = s.region j := rfl
@[simp] theorem setTurn_frame (v : MemTurn) : (s.setTurn k v).frame j = s.frame j := rfl
@[simp] theorem setTurn_uart (v : MemTurn) : (s.setTurn k v).uart j = s.uart j := rfl
@[simp] theorem setTurn_spi (v : MemTurn) : (s.setTurn k v).spi j = s.spi j := rfl
@[simp] theorem setTurn_i2c (v : MemTurn) : (s.setTurn k v).i2c j = s.i2c j := rfl
@[simp] theorem setTurn_timer (v : MemTurn) : (s.setTurn k v).timer j = s.timer j := rfl

/-! ### desc -/

@[simp] theorem modDesc_eq (f : Word → Word) : s.modDesc k f = s.setDesc k (f (s.desc k)) := rfl
@[simp] theorem setDesc_pending (v : Word) : (s.setDesc k v).pending = s.pending := rfl
@[simp] theorem setDesc_time (v : Word) : (s.setDesc k v).time = s.time := rfl
@[simp] theorem setDesc_freeCtr (v : Word) : (s.setDesc k v).freeCtr = s.freeCtr := rfl
@[simp] theorem setDesc_memEpoch (v : Word) : (s.setDesc k v).memEpoch = s.memEpoch := rfl
@[simp] theorem setDesc_mem (v : Word) : (s.setDesc k v).mem = s.mem := rfl
@[simp] theorem setDesc_cores (v : Word) : (s.setDesc k v).cores = s.cores := rfl
@[simp] theorem setDesc_quince (v : Word) : (s.setDesc k v).quince = s.quince := rfl
@[simp] theorem setDesc_tiles (v : Word) : (s.setDesc k v).tiles = s.tiles := rfl
@[simp] theorem setDesc_wires (v : Word) : (s.setDesc k v).wires = s.wires := rfl
@[simp] theorem setDesc_pacers (v : Word) : (s.setDesc k v).pacers = s.pacers := rfl
@[simp] theorem setDesc_tapQueue (v : Word) : (s.setDesc k v).tapQueue = s.tapQueue := rfl
@[simp] theorem setDesc_seams (v : Word) : (s.setDesc k v).seams = s.seams := rfl
@[simp] theorem setDesc_clk (v : Word) : (s.setDesc k v).clk = s.clk := rfl
@[simp] theorem setDesc_pins (v : Word) : (s.setDesc k v).pins = s.pins := rfl
@[simp] theorem setDesc_cfg (v : Word) : (s.setDesc k v).cfg = s.cfg := rfl
@[simp] theorem setDesc_intc (v : Word) : (s.setDesc k v).intc = s.intc := rfl
@[simp] theorem setDesc_hk (v : Word) : (s.setDesc k v).hk = s.hk := rfl
@[simp] theorem setDesc_pwr (v : Word) : (s.setDesc k v).pwr = s.pwr := rfl
@[simp] theorem setDesc_flt (v : Word) : (s.setDesc k v).flt = s.flt := rfl
@[simp] theorem setDesc_dev (v : Word) : (s.setDesc k v).dev = s.dev := rfl
@[simp] theorem setDesc_bist (v : Word) : (s.setDesc k v).bist = s.bist := rfl
@[simp] theorem setDesc_pert (v : Word) : (s.setDesc k v).pert = s.pert := rfl
@[simp] theorem setDesc_jtag (v : Word) : (s.setDesc k v).jtag = s.jtag := rfl
@[simp] theorem setDesc_core (v : Word) : (s.setDesc k v).core j = s.core j := rfl
@[simp] theorem setDesc_tile (v : Word) : (s.setDesc k v).tile j = s.tile j := rfl
@[simp] theorem setDesc_pacer (v : Word) : (s.setDesc k v).pacer j = s.pacer j := rfl
@[simp] theorem setDesc_seam (v : Word) : (s.setDesc k v).seam j = s.seam j := rfl
@[simp] theorem setDesc_node (v : Word) : (s.setDesc k v).node j = s.node j := rfl
@[simp] theorem setDesc_turn (v : Word) : (s.setDesc k v).turn j = s.turn j := rfl
@[simp] theorem setDesc_desc (v : Word) : (s.setDesc k v).desc j = if j = k then v else s.desc j :=
  SMap.read_write _ _ _ _ _
@[simp] theorem setDesc_req (v : Word) : (s.setDesc k v).req j = s.req j := rfl
@[simp] theorem setDesc_ec (v : Word) : (s.setDesc k v).ec j = s.ec j := rfl
@[simp] theorem setDesc_phase (v : Word) : (s.setDesc k v).phase j = s.phase j := rfl
@[simp] theorem setDesc_pin (v : Word) : (s.setDesc k v).pin j = s.pin j := rfl
@[simp] theorem setDesc_pinBank (v : Word) : (s.setDesc k v).pinBank j = s.pinBank j := rfl
@[simp] theorem setDesc_region (v : Word) : (s.setDesc k v).region j = s.region j := rfl
@[simp] theorem setDesc_frame (v : Word) : (s.setDesc k v).frame j = s.frame j := rfl
@[simp] theorem setDesc_uart (v : Word) : (s.setDesc k v).uart j = s.uart j := rfl
@[simp] theorem setDesc_spi (v : Word) : (s.setDesc k v).spi j = s.spi j := rfl
@[simp] theorem setDesc_i2c (v : Word) : (s.setDesc k v).i2c j = s.i2c j := rfl
@[simp] theorem setDesc_timer (v : Word) : (s.setDesc k v).timer j = s.timer j := rfl

/-! ### req -/

@[simp] theorem modReq_eq (f : LaceReq → LaceReq) : s.modReq k f = s.setReq k (f (s.req k)) := rfl
@[simp] theorem setReq_pending (v : LaceReq) : (s.setReq k v).pending = s.pending := rfl
@[simp] theorem setReq_time (v : LaceReq) : (s.setReq k v).time = s.time := rfl
@[simp] theorem setReq_freeCtr (v : LaceReq) : (s.setReq k v).freeCtr = s.freeCtr := rfl
@[simp] theorem setReq_memEpoch (v : LaceReq) : (s.setReq k v).memEpoch = s.memEpoch := rfl
@[simp] theorem setReq_mem (v : LaceReq) : (s.setReq k v).mem = s.mem := rfl
@[simp] theorem setReq_cores (v : LaceReq) : (s.setReq k v).cores = s.cores := rfl
@[simp] theorem setReq_quince (v : LaceReq) : (s.setReq k v).quince = s.quince := rfl
@[simp] theorem setReq_tiles (v : LaceReq) : (s.setReq k v).tiles = s.tiles := rfl
@[simp] theorem setReq_wires (v : LaceReq) : (s.setReq k v).wires = s.wires := rfl
@[simp] theorem setReq_pacers (v : LaceReq) : (s.setReq k v).pacers = s.pacers := rfl
@[simp] theorem setReq_tapQueue (v : LaceReq) : (s.setReq k v).tapQueue = s.tapQueue := rfl
@[simp] theorem setReq_seams (v : LaceReq) : (s.setReq k v).seams = s.seams := rfl
@[simp] theorem setReq_clk (v : LaceReq) : (s.setReq k v).clk = s.clk := rfl
@[simp] theorem setReq_pins (v : LaceReq) : (s.setReq k v).pins = s.pins := rfl
@[simp] theorem setReq_cfg (v : LaceReq) : (s.setReq k v).cfg = s.cfg := rfl
@[simp] theorem setReq_intc (v : LaceReq) : (s.setReq k v).intc = s.intc := rfl
@[simp] theorem setReq_hk (v : LaceReq) : (s.setReq k v).hk = s.hk := rfl
@[simp] theorem setReq_pwr (v : LaceReq) : (s.setReq k v).pwr = s.pwr := rfl
@[simp] theorem setReq_flt (v : LaceReq) : (s.setReq k v).flt = s.flt := rfl
@[simp] theorem setReq_dev (v : LaceReq) : (s.setReq k v).dev = s.dev := rfl
@[simp] theorem setReq_bist (v : LaceReq) : (s.setReq k v).bist = s.bist := rfl
@[simp] theorem setReq_pert (v : LaceReq) : (s.setReq k v).pert = s.pert := rfl
@[simp] theorem setReq_jtag (v : LaceReq) : (s.setReq k v).jtag = s.jtag := rfl
@[simp] theorem setReq_core (v : LaceReq) : (s.setReq k v).core j = s.core j := rfl
@[simp] theorem setReq_tile (v : LaceReq) : (s.setReq k v).tile j = s.tile j := rfl
@[simp] theorem setReq_pacer (v : LaceReq) : (s.setReq k v).pacer j = s.pacer j := rfl
@[simp] theorem setReq_seam (v : LaceReq) : (s.setReq k v).seam j = s.seam j := rfl
@[simp] theorem setReq_node (v : LaceReq) : (s.setReq k v).node j = s.node j := rfl
@[simp] theorem setReq_turn (v : LaceReq) : (s.setReq k v).turn j = s.turn j := rfl
@[simp] theorem setReq_desc (v : LaceReq) : (s.setReq k v).desc j = s.desc j := rfl
@[simp] theorem setReq_req (v : LaceReq) : (s.setReq k v).req j = if j = k then v else s.req j :=
  SMap.read_write _ _ _ _ _
@[simp] theorem setReq_ec (v : LaceReq) : (s.setReq k v).ec j = s.ec j := rfl
@[simp] theorem setReq_phase (v : LaceReq) : (s.setReq k v).phase j = s.phase j := rfl
@[simp] theorem setReq_pin (v : LaceReq) : (s.setReq k v).pin j = s.pin j := rfl
@[simp] theorem setReq_pinBank (v : LaceReq) : (s.setReq k v).pinBank j = s.pinBank j := rfl
@[simp] theorem setReq_region (v : LaceReq) : (s.setReq k v).region j = s.region j := rfl
@[simp] theorem setReq_frame (v : LaceReq) : (s.setReq k v).frame j = s.frame j := rfl
@[simp] theorem setReq_uart (v : LaceReq) : (s.setReq k v).uart j = s.uart j := rfl
@[simp] theorem setReq_spi (v : LaceReq) : (s.setReq k v).spi j = s.spi j := rfl
@[simp] theorem setReq_i2c (v : LaceReq) : (s.setReq k v).i2c j = s.i2c j := rfl
@[simp] theorem setReq_timer (v : LaceReq) : (s.setReq k v).timer j = s.timer j := rfl

/-! ### ec -/

@[simp] theorem modEc_eq (f : EdgeClock → EdgeClock) : s.modEc k f = s.setEc k (f (s.ec k)) := rfl
@[simp] theorem setEc_pending (v : EdgeClock) : (s.setEc k v).pending = s.pending := rfl
@[simp] theorem setEc_time (v : EdgeClock) : (s.setEc k v).time = s.time := rfl
@[simp] theorem setEc_freeCtr (v : EdgeClock) : (s.setEc k v).freeCtr = s.freeCtr := rfl
@[simp] theorem setEc_memEpoch (v : EdgeClock) : (s.setEc k v).memEpoch = s.memEpoch := rfl
@[simp] theorem setEc_mem (v : EdgeClock) : (s.setEc k v).mem = s.mem := rfl
@[simp] theorem setEc_cores (v : EdgeClock) : (s.setEc k v).cores = s.cores := rfl
@[simp] theorem setEc_quince (v : EdgeClock) : (s.setEc k v).quince = s.quince := rfl
@[simp] theorem setEc_tiles (v : EdgeClock) : (s.setEc k v).tiles = s.tiles := rfl
@[simp] theorem setEc_wires (v : EdgeClock) : (s.setEc k v).wires = s.wires := rfl
@[simp] theorem setEc_pacers (v : EdgeClock) : (s.setEc k v).pacers = s.pacers := rfl
@[simp] theorem setEc_lace (v : EdgeClock) : (s.setEc k v).lace = s.lace := rfl
@[simp] theorem setEc_tapQueue (v : EdgeClock) : (s.setEc k v).tapQueue = s.tapQueue := rfl
@[simp] theorem setEc_seams (v : EdgeClock) : (s.setEc k v).seams = s.seams := rfl
@[simp] theorem setEc_pins (v : EdgeClock) : (s.setEc k v).pins = s.pins := rfl
@[simp] theorem setEc_cfg (v : EdgeClock) : (s.setEc k v).cfg = s.cfg := rfl
@[simp] theorem setEc_intc (v : EdgeClock) : (s.setEc k v).intc = s.intc := rfl
@[simp] theorem setEc_hk (v : EdgeClock) : (s.setEc k v).hk = s.hk := rfl
@[simp] theorem setEc_pwr (v : EdgeClock) : (s.setEc k v).pwr = s.pwr := rfl
@[simp] theorem setEc_flt (v : EdgeClock) : (s.setEc k v).flt = s.flt := rfl
@[simp] theorem setEc_dev (v : EdgeClock) : (s.setEc k v).dev = s.dev := rfl
@[simp] theorem setEc_bist (v : EdgeClock) : (s.setEc k v).bist = s.bist := rfl
@[simp] theorem setEc_pert (v : EdgeClock) : (s.setEc k v).pert = s.pert := rfl
@[simp] theorem setEc_jtag (v : EdgeClock) : (s.setEc k v).jtag = s.jtag := rfl
@[simp] theorem setEc_core (v : EdgeClock) : (s.setEc k v).core j = s.core j := rfl
@[simp] theorem setEc_tile (v : EdgeClock) : (s.setEc k v).tile j = s.tile j := rfl
@[simp] theorem setEc_pacer (v : EdgeClock) : (s.setEc k v).pacer j = s.pacer j := rfl
@[simp] theorem setEc_seam (v : EdgeClock) : (s.setEc k v).seam j = s.seam j := rfl
@[simp] theorem setEc_node (v : EdgeClock) : (s.setEc k v).node j = s.node j := rfl
@[simp] theorem setEc_turn (v : EdgeClock) : (s.setEc k v).turn j = s.turn j := rfl
@[simp] theorem setEc_desc (v : EdgeClock) : (s.setEc k v).desc j = s.desc j := rfl
@[simp] theorem setEc_req (v : EdgeClock) : (s.setEc k v).req j = s.req j := rfl
@[simp] theorem setEc_ec (v : EdgeClock) : (s.setEc k v).ec j = if j = k then v else s.ec j :=
  SMap.read_write _ _ _ _ _
@[simp] theorem setEc_phase (v : EdgeClock) : (s.setEc k v).phase j = s.phase j := rfl
@[simp] theorem setEc_pin (v : EdgeClock) : (s.setEc k v).pin j = s.pin j := rfl
@[simp] theorem setEc_pinBank (v : EdgeClock) : (s.setEc k v).pinBank j = s.pinBank j := rfl
@[simp] theorem setEc_region (v : EdgeClock) : (s.setEc k v).region j = s.region j := rfl
@[simp] theorem setEc_frame (v : EdgeClock) : (s.setEc k v).frame j = s.frame j := rfl
@[simp] theorem setEc_uart (v : EdgeClock) : (s.setEc k v).uart j = s.uart j := rfl
@[simp] theorem setEc_spi (v : EdgeClock) : (s.setEc k v).spi j = s.spi j := rfl
@[simp] theorem setEc_i2c (v : EdgeClock) : (s.setEc k v).i2c j = s.i2c j := rfl
@[simp] theorem setEc_timer (v : EdgeClock) : (s.setEc k v).timer j = s.timer j := rfl

/-! ### phase -/

@[simp] theorem modPhase_eq (f : PhaseLoop → PhaseLoop) : s.modPhase k f = s.setPhase k (f (s.phase k)) := rfl
@[simp] theorem setPhase_pending (v : PhaseLoop) : (s.setPhase k v).pending = s.pending := rfl
@[simp] theorem setPhase_time (v : PhaseLoop) : (s.setPhase k v).time = s.time := rfl
@[simp] theorem setPhase_freeCtr (v : PhaseLoop) : (s.setPhase k v).freeCtr = s.freeCtr := rfl
@[simp] theorem setPhase_memEpoch (v : PhaseLoop) : (s.setPhase k v).memEpoch = s.memEpoch := rfl
@[simp] theorem setPhase_mem (v : PhaseLoop) : (s.setPhase k v).mem = s.mem := rfl
@[simp] theorem setPhase_cores (v : PhaseLoop) : (s.setPhase k v).cores = s.cores := rfl
@[simp] theorem setPhase_quince (v : PhaseLoop) : (s.setPhase k v).quince = s.quince := rfl
@[simp] theorem setPhase_tiles (v : PhaseLoop) : (s.setPhase k v).tiles = s.tiles := rfl
@[simp] theorem setPhase_wires (v : PhaseLoop) : (s.setPhase k v).wires = s.wires := rfl
@[simp] theorem setPhase_pacers (v : PhaseLoop) : (s.setPhase k v).pacers = s.pacers := rfl
@[simp] theorem setPhase_lace (v : PhaseLoop) : (s.setPhase k v).lace = s.lace := rfl
@[simp] theorem setPhase_tapQueue (v : PhaseLoop) : (s.setPhase k v).tapQueue = s.tapQueue := rfl
@[simp] theorem setPhase_seams (v : PhaseLoop) : (s.setPhase k v).seams = s.seams := rfl
@[simp] theorem setPhase_pins (v : PhaseLoop) : (s.setPhase k v).pins = s.pins := rfl
@[simp] theorem setPhase_cfg (v : PhaseLoop) : (s.setPhase k v).cfg = s.cfg := rfl
@[simp] theorem setPhase_intc (v : PhaseLoop) : (s.setPhase k v).intc = s.intc := rfl
@[simp] theorem setPhase_hk (v : PhaseLoop) : (s.setPhase k v).hk = s.hk := rfl
@[simp] theorem setPhase_pwr (v : PhaseLoop) : (s.setPhase k v).pwr = s.pwr := rfl
@[simp] theorem setPhase_flt (v : PhaseLoop) : (s.setPhase k v).flt = s.flt := rfl
@[simp] theorem setPhase_dev (v : PhaseLoop) : (s.setPhase k v).dev = s.dev := rfl
@[simp] theorem setPhase_bist (v : PhaseLoop) : (s.setPhase k v).bist = s.bist := rfl
@[simp] theorem setPhase_pert (v : PhaseLoop) : (s.setPhase k v).pert = s.pert := rfl
@[simp] theorem setPhase_jtag (v : PhaseLoop) : (s.setPhase k v).jtag = s.jtag := rfl
@[simp] theorem setPhase_core (v : PhaseLoop) : (s.setPhase k v).core j = s.core j := rfl
@[simp] theorem setPhase_tile (v : PhaseLoop) : (s.setPhase k v).tile j = s.tile j := rfl
@[simp] theorem setPhase_pacer (v : PhaseLoop) : (s.setPhase k v).pacer j = s.pacer j := rfl
@[simp] theorem setPhase_seam (v : PhaseLoop) : (s.setPhase k v).seam j = s.seam j := rfl
@[simp] theorem setPhase_node (v : PhaseLoop) : (s.setPhase k v).node j = s.node j := rfl
@[simp] theorem setPhase_turn (v : PhaseLoop) : (s.setPhase k v).turn j = s.turn j := rfl
@[simp] theorem setPhase_desc (v : PhaseLoop) : (s.setPhase k v).desc j = s.desc j := rfl
@[simp] theorem setPhase_req (v : PhaseLoop) : (s.setPhase k v).req j = s.req j := rfl
@[simp] theorem setPhase_ec (v : PhaseLoop) : (s.setPhase k v).ec j = s.ec j := rfl
@[simp] theorem setPhase_phase (v : PhaseLoop) : (s.setPhase k v).phase j = if j = k then v else s.phase j :=
  SMap.read_write _ _ _ _ _
@[simp] theorem setPhase_pin (v : PhaseLoop) : (s.setPhase k v).pin j = s.pin j := rfl
@[simp] theorem setPhase_pinBank (v : PhaseLoop) : (s.setPhase k v).pinBank j = s.pinBank j := rfl
@[simp] theorem setPhase_region (v : PhaseLoop) : (s.setPhase k v).region j = s.region j := rfl
@[simp] theorem setPhase_frame (v : PhaseLoop) : (s.setPhase k v).frame j = s.frame j := rfl
@[simp] theorem setPhase_uart (v : PhaseLoop) : (s.setPhase k v).uart j = s.uart j := rfl
@[simp] theorem setPhase_spi (v : PhaseLoop) : (s.setPhase k v).spi j = s.spi j := rfl
@[simp] theorem setPhase_i2c (v : PhaseLoop) : (s.setPhase k v).i2c j = s.i2c j := rfl
@[simp] theorem setPhase_timer (v : PhaseLoop) : (s.setPhase k v).timer j = s.timer j := rfl

/-! ### pin -/

@[simp] theorem modPin_eq (f : Pin → Pin) : s.modPin k f = s.setPin k (f (s.pin k)) := rfl
@[simp] theorem setPin_pending (v : Pin) : (s.setPin k v).pending = s.pending := rfl
@[simp] theorem setPin_time (v : Pin) : (s.setPin k v).time = s.time := rfl
@[simp] theorem setPin_freeCtr (v : Pin) : (s.setPin k v).freeCtr = s.freeCtr := rfl
@[simp] theorem setPin_memEpoch (v : Pin) : (s.setPin k v).memEpoch = s.memEpoch := rfl
@[simp] theorem setPin_mem (v : Pin) : (s.setPin k v).mem = s.mem := rfl
@[simp] theorem setPin_cores (v : Pin) : (s.setPin k v).cores = s.cores := rfl
@[simp] theorem setPin_quince (v : Pin) : (s.setPin k v).quince = s.quince := rfl
@[simp] theorem setPin_tiles (v : Pin) : (s.setPin k v).tiles = s.tiles := rfl
@[simp] theorem setPin_wires (v : Pin) : (s.setPin k v).wires = s.wires := rfl
@[simp] theorem setPin_pacers (v : Pin) : (s.setPin k v).pacers = s.pacers := rfl
@[simp] theorem setPin_lace (v : Pin) : (s.setPin k v).lace = s.lace := rfl
@[simp] theorem setPin_tapQueue (v : Pin) : (s.setPin k v).tapQueue = s.tapQueue := rfl
@[simp] theorem setPin_seams (v : Pin) : (s.setPin k v).seams = s.seams := rfl
@[simp] theorem setPin_clk (v : Pin) : (s.setPin k v).clk = s.clk := rfl
@[simp] theorem setPin_cfg (v : Pin) : (s.setPin k v).cfg = s.cfg := rfl
@[simp] theorem setPin_intc (v : Pin) : (s.setPin k v).intc = s.intc := rfl
@[simp] theorem setPin_hk (v : Pin) : (s.setPin k v).hk = s.hk := rfl
@[simp] theorem setPin_pwr (v : Pin) : (s.setPin k v).pwr = s.pwr := rfl
@[simp] theorem setPin_flt (v : Pin) : (s.setPin k v).flt = s.flt := rfl
@[simp] theorem setPin_dev (v : Pin) : (s.setPin k v).dev = s.dev := rfl
@[simp] theorem setPin_bist (v : Pin) : (s.setPin k v).bist = s.bist := rfl
@[simp] theorem setPin_pert (v : Pin) : (s.setPin k v).pert = s.pert := rfl
@[simp] theorem setPin_jtag (v : Pin) : (s.setPin k v).jtag = s.jtag := rfl
@[simp] theorem setPin_core (v : Pin) : (s.setPin k v).core j = s.core j := rfl
@[simp] theorem setPin_tile (v : Pin) : (s.setPin k v).tile j = s.tile j := rfl
@[simp] theorem setPin_pacer (v : Pin) : (s.setPin k v).pacer j = s.pacer j := rfl
@[simp] theorem setPin_seam (v : Pin) : (s.setPin k v).seam j = s.seam j := rfl
@[simp] theorem setPin_node (v : Pin) : (s.setPin k v).node j = s.node j := rfl
@[simp] theorem setPin_turn (v : Pin) : (s.setPin k v).turn j = s.turn j := rfl
@[simp] theorem setPin_desc (v : Pin) : (s.setPin k v).desc j = s.desc j := rfl
@[simp] theorem setPin_req (v : Pin) : (s.setPin k v).req j = s.req j := rfl
@[simp] theorem setPin_ec (v : Pin) : (s.setPin k v).ec j = s.ec j := rfl
@[simp] theorem setPin_phase (v : Pin) : (s.setPin k v).phase j = s.phase j := rfl
@[simp] theorem setPin_pin (v : Pin) : (s.setPin k v).pin j = if j = k then v else s.pin j :=
  SMap.read_write _ _ _ _ _
@[simp] theorem setPin_pinBank (v : Pin) : (s.setPin k v).pinBank j = s.pinBank j := rfl
@[simp] theorem setPin_region (v : Pin) : (s.setPin k v).region j = s.region j := rfl
@[simp] theorem setPin_frame (v : Pin) : (s.setPin k v).frame j = s.frame j := rfl
@[simp] theorem setPin_uart (v : Pin) : (s.setPin k v).uart j = s.uart j := rfl
@[simp] theorem setPin_spi (v : Pin) : (s.setPin k v).spi j = s.spi j := rfl
@[simp] theorem setPin_i2c (v : Pin) : (s.setPin k v).i2c j = s.i2c j := rfl
@[simp] theorem setPin_timer (v : Pin) : (s.setPin k v).timer j = s.timer j := rfl

/-! ### pinBank -/

@[simp] theorem modPinBank_eq (f : PinBank → PinBank) : s.modPinBank k f = s.setPinBank k (f (s.pinBank k)) := rfl
@[simp] theorem setPinBank_pending (v : PinBank) : (s.setPinBank k v).pending = s.pending := rfl
@[simp] theorem setPinBank_time (v : PinBank) : (s.setPinBank k v).time = s.time := rfl
@[simp] theorem setPinBank_freeCtr (v : PinBank) : (s.setPinBank k v).freeCtr = s.freeCtr := rfl
@[simp] theorem setPinBank_memEpoch (v : PinBank) : (s.setPinBank k v).memEpoch = s.memEpoch := rfl
@[simp] theorem setPinBank_mem (v : PinBank) : (s.setPinBank k v).mem = s.mem := rfl
@[simp] theorem setPinBank_cores (v : PinBank) : (s.setPinBank k v).cores = s.cores := rfl
@[simp] theorem setPinBank_quince (v : PinBank) : (s.setPinBank k v).quince = s.quince := rfl
@[simp] theorem setPinBank_tiles (v : PinBank) : (s.setPinBank k v).tiles = s.tiles := rfl
@[simp] theorem setPinBank_wires (v : PinBank) : (s.setPinBank k v).wires = s.wires := rfl
@[simp] theorem setPinBank_pacers (v : PinBank) : (s.setPinBank k v).pacers = s.pacers := rfl
@[simp] theorem setPinBank_lace (v : PinBank) : (s.setPinBank k v).lace = s.lace := rfl
@[simp] theorem setPinBank_tapQueue (v : PinBank) : (s.setPinBank k v).tapQueue = s.tapQueue := rfl
@[simp] theorem setPinBank_seams (v : PinBank) : (s.setPinBank k v).seams = s.seams := rfl
@[simp] theorem setPinBank_clk (v : PinBank) : (s.setPinBank k v).clk = s.clk := rfl
@[simp] theorem setPinBank_cfg (v : PinBank) : (s.setPinBank k v).cfg = s.cfg := rfl
@[simp] theorem setPinBank_intc (v : PinBank) : (s.setPinBank k v).intc = s.intc := rfl
@[simp] theorem setPinBank_hk (v : PinBank) : (s.setPinBank k v).hk = s.hk := rfl
@[simp] theorem setPinBank_pwr (v : PinBank) : (s.setPinBank k v).pwr = s.pwr := rfl
@[simp] theorem setPinBank_flt (v : PinBank) : (s.setPinBank k v).flt = s.flt := rfl
@[simp] theorem setPinBank_dev (v : PinBank) : (s.setPinBank k v).dev = s.dev := rfl
@[simp] theorem setPinBank_bist (v : PinBank) : (s.setPinBank k v).bist = s.bist := rfl
@[simp] theorem setPinBank_pert (v : PinBank) : (s.setPinBank k v).pert = s.pert := rfl
@[simp] theorem setPinBank_jtag (v : PinBank) : (s.setPinBank k v).jtag = s.jtag := rfl
@[simp] theorem setPinBank_core (v : PinBank) : (s.setPinBank k v).core j = s.core j := rfl
@[simp] theorem setPinBank_tile (v : PinBank) : (s.setPinBank k v).tile j = s.tile j := rfl
@[simp] theorem setPinBank_pacer (v : PinBank) : (s.setPinBank k v).pacer j = s.pacer j := rfl
@[simp] theorem setPinBank_seam (v : PinBank) : (s.setPinBank k v).seam j = s.seam j := rfl
@[simp] theorem setPinBank_node (v : PinBank) : (s.setPinBank k v).node j = s.node j := rfl
@[simp] theorem setPinBank_turn (v : PinBank) : (s.setPinBank k v).turn j = s.turn j := rfl
@[simp] theorem setPinBank_desc (v : PinBank) : (s.setPinBank k v).desc j = s.desc j := rfl
@[simp] theorem setPinBank_req (v : PinBank) : (s.setPinBank k v).req j = s.req j := rfl
@[simp] theorem setPinBank_ec (v : PinBank) : (s.setPinBank k v).ec j = s.ec j := rfl
@[simp] theorem setPinBank_phase (v : PinBank) : (s.setPinBank k v).phase j = s.phase j := rfl
@[simp] theorem setPinBank_pin (v : PinBank) : (s.setPinBank k v).pin j = s.pin j := rfl
@[simp] theorem setPinBank_pinBank (v : PinBank) : (s.setPinBank k v).pinBank j = if j = k then v else s.pinBank j :=
  SMap.read_write _ _ _ _ _
@[simp] theorem setPinBank_region (v : PinBank) : (s.setPinBank k v).region j = s.region j := rfl
@[simp] theorem setPinBank_frame (v : PinBank) : (s.setPinBank k v).frame j = s.frame j := rfl
@[simp] theorem setPinBank_uart (v : PinBank) : (s.setPinBank k v).uart j = s.uart j := rfl
@[simp] theorem setPinBank_spi (v : PinBank) : (s.setPinBank k v).spi j = s.spi j := rfl
@[simp] theorem setPinBank_i2c (v : PinBank) : (s.setPinBank k v).i2c j = s.i2c j := rfl
@[simp] theorem setPinBank_timer (v : PinBank) : (s.setPinBank k v).timer j = s.timer j := rfl

/-! ### region -/

@[simp] theorem modRegion_eq (f : Region → Region) : s.modRegion k f = s.setRegion k (f (s.region k)) := rfl
@[simp] theorem setRegion_pending (v : Region) : (s.setRegion k v).pending = s.pending := rfl
@[simp] theorem setRegion_time (v : Region) : (s.setRegion k v).time = s.time := rfl
@[simp] theorem setRegion_freeCtr (v : Region) : (s.setRegion k v).freeCtr = s.freeCtr := rfl
@[simp] theorem setRegion_memEpoch (v : Region) : (s.setRegion k v).memEpoch = s.memEpoch := rfl
@[simp] theorem setRegion_mem (v : Region) : (s.setRegion k v).mem = s.mem := rfl
@[simp] theorem setRegion_cores (v : Region) : (s.setRegion k v).cores = s.cores := rfl
@[simp] theorem setRegion_quince (v : Region) : (s.setRegion k v).quince = s.quince := rfl
@[simp] theorem setRegion_tiles (v : Region) : (s.setRegion k v).tiles = s.tiles := rfl
@[simp] theorem setRegion_wires (v : Region) : (s.setRegion k v).wires = s.wires := rfl
@[simp] theorem setRegion_pacers (v : Region) : (s.setRegion k v).pacers = s.pacers := rfl
@[simp] theorem setRegion_lace (v : Region) : (s.setRegion k v).lace = s.lace := rfl
@[simp] theorem setRegion_tapQueue (v : Region) : (s.setRegion k v).tapQueue = s.tapQueue := rfl
@[simp] theorem setRegion_seams (v : Region) : (s.setRegion k v).seams = s.seams := rfl
@[simp] theorem setRegion_clk (v : Region) : (s.setRegion k v).clk = s.clk := rfl
@[simp] theorem setRegion_pins (v : Region) : (s.setRegion k v).pins = s.pins := rfl
@[simp] theorem setRegion_intc (v : Region) : (s.setRegion k v).intc = s.intc := rfl
@[simp] theorem setRegion_hk (v : Region) : (s.setRegion k v).hk = s.hk := rfl
@[simp] theorem setRegion_pwr (v : Region) : (s.setRegion k v).pwr = s.pwr := rfl
@[simp] theorem setRegion_flt (v : Region) : (s.setRegion k v).flt = s.flt := rfl
@[simp] theorem setRegion_dev (v : Region) : (s.setRegion k v).dev = s.dev := rfl
@[simp] theorem setRegion_bist (v : Region) : (s.setRegion k v).bist = s.bist := rfl
@[simp] theorem setRegion_pert (v : Region) : (s.setRegion k v).pert = s.pert := rfl
@[simp] theorem setRegion_jtag (v : Region) : (s.setRegion k v).jtag = s.jtag := rfl
@[simp] theorem setRegion_core (v : Region) : (s.setRegion k v).core j = s.core j := rfl
@[simp] theorem setRegion_tile (v : Region) : (s.setRegion k v).tile j = s.tile j := rfl
@[simp] theorem setRegion_pacer (v : Region) : (s.setRegion k v).pacer j = s.pacer j := rfl
@[simp] theorem setRegion_seam (v : Region) : (s.setRegion k v).seam j = s.seam j := rfl
@[simp] theorem setRegion_node (v : Region) : (s.setRegion k v).node j = s.node j := rfl
@[simp] theorem setRegion_turn (v : Region) : (s.setRegion k v).turn j = s.turn j := rfl
@[simp] theorem setRegion_desc (v : Region) : (s.setRegion k v).desc j = s.desc j := rfl
@[simp] theorem setRegion_req (v : Region) : (s.setRegion k v).req j = s.req j := rfl
@[simp] theorem setRegion_ec (v : Region) : (s.setRegion k v).ec j = s.ec j := rfl
@[simp] theorem setRegion_phase (v : Region) : (s.setRegion k v).phase j = s.phase j := rfl
@[simp] theorem setRegion_pin (v : Region) : (s.setRegion k v).pin j = s.pin j := rfl
@[simp] theorem setRegion_pinBank (v : Region) : (s.setRegion k v).pinBank j = s.pinBank j := rfl
@[simp] theorem setRegion_region (v : Region) : (s.setRegion k v).region j = if j = k then v else s.region j :=
  SMap.read_write _ _ _ _ _
@[simp] theorem setRegion_frame (v : Region) : (s.setRegion k v).frame j = s.frame j := rfl
@[simp] theorem setRegion_uart (v : Region) : (s.setRegion k v).uart j = s.uart j := rfl
@[simp] theorem setRegion_spi (v : Region) : (s.setRegion k v).spi j = s.spi j := rfl
@[simp] theorem setRegion_i2c (v : Region) : (s.setRegion k v).i2c j = s.i2c j := rfl
@[simp] theorem setRegion_timer (v : Region) : (s.setRegion k v).timer j = s.timer j := rfl

/-! ### frame -/

@[simp] theorem modFrame_eq (f : Frame → Frame) : s.modFrame k f = s.setFrame k (f (s.frame k)) := rfl
@[simp] theorem setFrame_pending (v : Frame) : (s.setFrame k v).pending = s.pending := rfl
@[simp] theorem setFrame_time (v : Frame) : (s.setFrame k v).time = s.time := rfl
@[simp] theorem setFrame_freeCtr (v : Frame) : (s.setFrame k v).freeCtr = s.freeCtr := rfl
@[simp] theorem setFrame_memEpoch (v : Frame) : (s.setFrame k v).memEpoch = s.memEpoch := rfl
@[simp] theorem setFrame_mem (v : Frame) : (s.setFrame k v).mem = s.mem := rfl
@[simp] theorem setFrame_cores (v : Frame) : (s.setFrame k v).cores = s.cores := rfl
@[simp] theorem setFrame_quince (v : Frame) : (s.setFrame k v).quince = s.quince := rfl
@[simp] theorem setFrame_tiles (v : Frame) : (s.setFrame k v).tiles = s.tiles := rfl
@[simp] theorem setFrame_wires (v : Frame) : (s.setFrame k v).wires = s.wires := rfl
@[simp] theorem setFrame_pacers (v : Frame) : (s.setFrame k v).pacers = s.pacers := rfl
@[simp] theorem setFrame_lace (v : Frame) : (s.setFrame k v).lace = s.lace := rfl
@[simp] theorem setFrame_tapQueue (v : Frame) : (s.setFrame k v).tapQueue = s.tapQueue := rfl
@[simp] theorem setFrame_seams (v : Frame) : (s.setFrame k v).seams = s.seams := rfl
@[simp] theorem setFrame_clk (v : Frame) : (s.setFrame k v).clk = s.clk := rfl
@[simp] theorem setFrame_pins (v : Frame) : (s.setFrame k v).pins = s.pins := rfl
@[simp] theorem setFrame_intc (v : Frame) : (s.setFrame k v).intc = s.intc := rfl
@[simp] theorem setFrame_hk (v : Frame) : (s.setFrame k v).hk = s.hk := rfl
@[simp] theorem setFrame_pwr (v : Frame) : (s.setFrame k v).pwr = s.pwr := rfl
@[simp] theorem setFrame_flt (v : Frame) : (s.setFrame k v).flt = s.flt := rfl
@[simp] theorem setFrame_dev (v : Frame) : (s.setFrame k v).dev = s.dev := rfl
@[simp] theorem setFrame_bist (v : Frame) : (s.setFrame k v).bist = s.bist := rfl
@[simp] theorem setFrame_pert (v : Frame) : (s.setFrame k v).pert = s.pert := rfl
@[simp] theorem setFrame_jtag (v : Frame) : (s.setFrame k v).jtag = s.jtag := rfl
@[simp] theorem setFrame_core (v : Frame) : (s.setFrame k v).core j = s.core j := rfl
@[simp] theorem setFrame_tile (v : Frame) : (s.setFrame k v).tile j = s.tile j := rfl
@[simp] theorem setFrame_pacer (v : Frame) : (s.setFrame k v).pacer j = s.pacer j := rfl
@[simp] theorem setFrame_seam (v : Frame) : (s.setFrame k v).seam j = s.seam j := rfl
@[simp] theorem setFrame_node (v : Frame) : (s.setFrame k v).node j = s.node j := rfl
@[simp] theorem setFrame_turn (v : Frame) : (s.setFrame k v).turn j = s.turn j := rfl
@[simp] theorem setFrame_desc (v : Frame) : (s.setFrame k v).desc j = s.desc j := rfl
@[simp] theorem setFrame_req (v : Frame) : (s.setFrame k v).req j = s.req j := rfl
@[simp] theorem setFrame_ec (v : Frame) : (s.setFrame k v).ec j = s.ec j := rfl
@[simp] theorem setFrame_phase (v : Frame) : (s.setFrame k v).phase j = s.phase j := rfl
@[simp] theorem setFrame_pin (v : Frame) : (s.setFrame k v).pin j = s.pin j := rfl
@[simp] theorem setFrame_pinBank (v : Frame) : (s.setFrame k v).pinBank j = s.pinBank j := rfl
@[simp] theorem setFrame_region (v : Frame) : (s.setFrame k v).region j = s.region j := rfl
@[simp] theorem setFrame_frame (v : Frame) : (s.setFrame k v).frame j = if j = k then v else s.frame j :=
  SMap.read_write _ _ _ _ _
@[simp] theorem setFrame_uart (v : Frame) : (s.setFrame k v).uart j = s.uart j := rfl
@[simp] theorem setFrame_spi (v : Frame) : (s.setFrame k v).spi j = s.spi j := rfl
@[simp] theorem setFrame_i2c (v : Frame) : (s.setFrame k v).i2c j = s.i2c j := rfl
@[simp] theorem setFrame_timer (v : Frame) : (s.setFrame k v).timer j = s.timer j := rfl

/-! ### uart -/

@[simp] theorem modUart_eq (f : Uart → Uart) : s.modUart k f = s.setUart k (f (s.uart k)) := rfl
@[simp] theorem setUart_pending (v : Uart) : (s.setUart k v).pending = s.pending := rfl
@[simp] theorem setUart_time (v : Uart) : (s.setUart k v).time = s.time := rfl
@[simp] theorem setUart_freeCtr (v : Uart) : (s.setUart k v).freeCtr = s.freeCtr := rfl
@[simp] theorem setUart_memEpoch (v : Uart) : (s.setUart k v).memEpoch = s.memEpoch := rfl
@[simp] theorem setUart_mem (v : Uart) : (s.setUart k v).mem = s.mem := rfl
@[simp] theorem setUart_cores (v : Uart) : (s.setUart k v).cores = s.cores := rfl
@[simp] theorem setUart_quince (v : Uart) : (s.setUart k v).quince = s.quince := rfl
@[simp] theorem setUart_tiles (v : Uart) : (s.setUart k v).tiles = s.tiles := rfl
@[simp] theorem setUart_wires (v : Uart) : (s.setUart k v).wires = s.wires := rfl
@[simp] theorem setUart_pacers (v : Uart) : (s.setUart k v).pacers = s.pacers := rfl
@[simp] theorem setUart_lace (v : Uart) : (s.setUart k v).lace = s.lace := rfl
@[simp] theorem setUart_tapQueue (v : Uart) : (s.setUart k v).tapQueue = s.tapQueue := rfl
@[simp] theorem setUart_seams (v : Uart) : (s.setUart k v).seams = s.seams := rfl
@[simp] theorem setUart_clk (v : Uart) : (s.setUart k v).clk = s.clk := rfl
@[simp] theorem setUart_pins (v : Uart) : (s.setUart k v).pins = s.pins := rfl
@[simp] theorem setUart_cfg (v : Uart) : (s.setUart k v).cfg = s.cfg := rfl
@[simp] theorem setUart_intc (v : Uart) : (s.setUart k v).intc = s.intc := rfl
@[simp] theorem setUart_pwr (v : Uart) : (s.setUart k v).pwr = s.pwr := rfl
@[simp] theorem setUart_flt (v : Uart) : (s.setUart k v).flt = s.flt := rfl
@[simp] theorem setUart_dev (v : Uart) : (s.setUart k v).dev = s.dev := rfl
@[simp] theorem setUart_bist (v : Uart) : (s.setUart k v).bist = s.bist := rfl
@[simp] theorem setUart_pert (v : Uart) : (s.setUart k v).pert = s.pert := rfl
@[simp] theorem setUart_jtag (v : Uart) : (s.setUart k v).jtag = s.jtag := rfl
@[simp] theorem setUart_core (v : Uart) : (s.setUart k v).core j = s.core j := rfl
@[simp] theorem setUart_tile (v : Uart) : (s.setUart k v).tile j = s.tile j := rfl
@[simp] theorem setUart_pacer (v : Uart) : (s.setUart k v).pacer j = s.pacer j := rfl
@[simp] theorem setUart_seam (v : Uart) : (s.setUart k v).seam j = s.seam j := rfl
@[simp] theorem setUart_node (v : Uart) : (s.setUart k v).node j = s.node j := rfl
@[simp] theorem setUart_turn (v : Uart) : (s.setUart k v).turn j = s.turn j := rfl
@[simp] theorem setUart_desc (v : Uart) : (s.setUart k v).desc j = s.desc j := rfl
@[simp] theorem setUart_req (v : Uart) : (s.setUart k v).req j = s.req j := rfl
@[simp] theorem setUart_ec (v : Uart) : (s.setUart k v).ec j = s.ec j := rfl
@[simp] theorem setUart_phase (v : Uart) : (s.setUart k v).phase j = s.phase j := rfl
@[simp] theorem setUart_pin (v : Uart) : (s.setUart k v).pin j = s.pin j := rfl
@[simp] theorem setUart_pinBank (v : Uart) : (s.setUart k v).pinBank j = s.pinBank j := rfl
@[simp] theorem setUart_region (v : Uart) : (s.setUart k v).region j = s.region j := rfl
@[simp] theorem setUart_frame (v : Uart) : (s.setUart k v).frame j = s.frame j := rfl
@[simp] theorem setUart_uart (v : Uart) : (s.setUart k v).uart j = if j = k then v else s.uart j :=
  SMap.read_write _ _ _ _ _
@[simp] theorem setUart_spi (v : Uart) : (s.setUart k v).spi j = s.spi j := rfl
@[simp] theorem setUart_i2c (v : Uart) : (s.setUart k v).i2c j = s.i2c j := rfl
@[simp] theorem setUart_timer (v : Uart) : (s.setUart k v).timer j = s.timer j := rfl

/-! ### spi -/

@[simp] theorem modSpi_eq (f : Spi → Spi) : s.modSpi k f = s.setSpi k (f (s.spi k)) := rfl
@[simp] theorem setSpi_pending (v : Spi) : (s.setSpi k v).pending = s.pending := rfl
@[simp] theorem setSpi_time (v : Spi) : (s.setSpi k v).time = s.time := rfl
@[simp] theorem setSpi_freeCtr (v : Spi) : (s.setSpi k v).freeCtr = s.freeCtr := rfl
@[simp] theorem setSpi_memEpoch (v : Spi) : (s.setSpi k v).memEpoch = s.memEpoch := rfl
@[simp] theorem setSpi_mem (v : Spi) : (s.setSpi k v).mem = s.mem := rfl
@[simp] theorem setSpi_cores (v : Spi) : (s.setSpi k v).cores = s.cores := rfl
@[simp] theorem setSpi_quince (v : Spi) : (s.setSpi k v).quince = s.quince := rfl
@[simp] theorem setSpi_tiles (v : Spi) : (s.setSpi k v).tiles = s.tiles := rfl
@[simp] theorem setSpi_wires (v : Spi) : (s.setSpi k v).wires = s.wires := rfl
@[simp] theorem setSpi_pacers (v : Spi) : (s.setSpi k v).pacers = s.pacers := rfl
@[simp] theorem setSpi_lace (v : Spi) : (s.setSpi k v).lace = s.lace := rfl
@[simp] theorem setSpi_tapQueue (v : Spi) : (s.setSpi k v).tapQueue = s.tapQueue := rfl
@[simp] theorem setSpi_seams (v : Spi) : (s.setSpi k v).seams = s.seams := rfl
@[simp] theorem setSpi_clk (v : Spi) : (s.setSpi k v).clk = s.clk := rfl
@[simp] theorem setSpi_pins (v : Spi) : (s.setSpi k v).pins = s.pins := rfl
@[simp] theorem setSpi_cfg (v : Spi) : (s.setSpi k v).cfg = s.cfg := rfl
@[simp] theorem setSpi_intc (v : Spi) : (s.setSpi k v).intc = s.intc := rfl
@[simp] theorem setSpi_pwr (v : Spi) : (s.setSpi k v).pwr = s.pwr := rfl
@[simp] theorem setSpi_flt (v : Spi) : (s.setSpi k v).flt = s.flt := rfl
@[simp] theorem setSpi_dev (v : Spi) : (s.setSpi k v).dev = s.dev := rfl
@[simp] theorem setSpi_bist (v : Spi) : (s.setSpi k v).bist = s.bist := rfl
@[simp] theorem setSpi_pert (v : Spi) : (s.setSpi k v).pert = s.pert := rfl
@[simp] theorem setSpi_jtag (v : Spi) : (s.setSpi k v).jtag = s.jtag := rfl
@[simp] theorem setSpi_core (v : Spi) : (s.setSpi k v).core j = s.core j := rfl
@[simp] theorem setSpi_tile (v : Spi) : (s.setSpi k v).tile j = s.tile j := rfl
@[simp] theorem setSpi_pacer (v : Spi) : (s.setSpi k v).pacer j = s.pacer j := rfl
@[simp] theorem setSpi_seam (v : Spi) : (s.setSpi k v).seam j = s.seam j := rfl
@[simp] theorem setSpi_node (v : Spi) : (s.setSpi k v).node j = s.node j := rfl
@[simp] theorem setSpi_turn (v : Spi) : (s.setSpi k v).turn j = s.turn j := rfl
@[simp] theorem setSpi_desc (v : Spi) : (s.setSpi k v).desc j = s.desc j := rfl
@[simp] theorem setSpi_req (v : Spi) : (s.setSpi k v).req j = s.req j := rfl
@[simp] theorem setSpi_ec (v : Spi) : (s.setSpi k v).ec j = s.ec j := rfl
@[simp] theorem setSpi_phase (v : Spi) : (s.setSpi k v).phase j = s.phase j := rfl
@[simp] theorem setSpi_pin (v : Spi) : (s.setSpi k v).pin j = s.pin j := rfl
@[simp] theorem setSpi_pinBank (v : Spi) : (s.setSpi k v).pinBank j = s.pinBank j := rfl
@[simp] theorem setSpi_region (v : Spi) : (s.setSpi k v).region j = s.region j := rfl
@[simp] theorem setSpi_frame (v : Spi) : (s.setSpi k v).frame j = s.frame j := rfl
@[simp] theorem setSpi_uart (v : Spi) : (s.setSpi k v).uart j = s.uart j := rfl
@[simp] theorem setSpi_spi (v : Spi) : (s.setSpi k v).spi j = if j = k then v else s.spi j :=
  SMap.read_write _ _ _ _ _
@[simp] theorem setSpi_i2c (v : Spi) : (s.setSpi k v).i2c j = s.i2c j := rfl
@[simp] theorem setSpi_timer (v : Spi) : (s.setSpi k v).timer j = s.timer j := rfl

/-! ### i2c -/

@[simp] theorem modI2c_eq (f : I2c → I2c) : s.modI2c k f = s.setI2c k (f (s.i2c k)) := rfl
@[simp] theorem setI2c_pending (v : I2c) : (s.setI2c k v).pending = s.pending := rfl
@[simp] theorem setI2c_time (v : I2c) : (s.setI2c k v).time = s.time := rfl
@[simp] theorem setI2c_freeCtr (v : I2c) : (s.setI2c k v).freeCtr = s.freeCtr := rfl
@[simp] theorem setI2c_memEpoch (v : I2c) : (s.setI2c k v).memEpoch = s.memEpoch := rfl
@[simp] theorem setI2c_mem (v : I2c) : (s.setI2c k v).mem = s.mem := rfl
@[simp] theorem setI2c_cores (v : I2c) : (s.setI2c k v).cores = s.cores := rfl
@[simp] theorem setI2c_quince (v : I2c) : (s.setI2c k v).quince = s.quince := rfl
@[simp] theorem setI2c_tiles (v : I2c) : (s.setI2c k v).tiles = s.tiles := rfl
@[simp] theorem setI2c_wires (v : I2c) : (s.setI2c k v).wires = s.wires := rfl
@[simp] theorem setI2c_pacers (v : I2c) : (s.setI2c k v).pacers = s.pacers := rfl
@[simp] theorem setI2c_lace (v : I2c) : (s.setI2c k v).lace = s.lace := rfl
@[simp] theorem setI2c_tapQueue (v : I2c) : (s.setI2c k v).tapQueue = s.tapQueue := rfl
@[simp] theorem setI2c_seams (v : I2c) : (s.setI2c k v).seams = s.seams := rfl
@[simp] theorem setI2c_clk (v : I2c) : (s.setI2c k v).clk = s.clk := rfl
@[simp] theorem setI2c_pins (v : I2c) : (s.setI2c k v).pins = s.pins := rfl
@[simp] theorem setI2c_cfg (v : I2c) : (s.setI2c k v).cfg = s.cfg := rfl
@[simp] theorem setI2c_intc (v : I2c) : (s.setI2c k v).intc = s.intc := rfl
@[simp] theorem setI2c_pwr (v : I2c) : (s.setI2c k v).pwr = s.pwr := rfl
@[simp] theorem setI2c_flt (v : I2c) : (s.setI2c k v).flt = s.flt := rfl
@[simp] theorem setI2c_dev (v : I2c) : (s.setI2c k v).dev = s.dev := rfl
@[simp] theorem setI2c_bist (v : I2c) : (s.setI2c k v).bist = s.bist := rfl
@[simp] theorem setI2c_pert (v : I2c) : (s.setI2c k v).pert = s.pert := rfl
@[simp] theorem setI2c_jtag (v : I2c) : (s.setI2c k v).jtag = s.jtag := rfl
@[simp] theorem setI2c_core (v : I2c) : (s.setI2c k v).core j = s.core j := rfl
@[simp] theorem setI2c_tile (v : I2c) : (s.setI2c k v).tile j = s.tile j := rfl
@[simp] theorem setI2c_pacer (v : I2c) : (s.setI2c k v).pacer j = s.pacer j := rfl
@[simp] theorem setI2c_seam (v : I2c) : (s.setI2c k v).seam j = s.seam j := rfl
@[simp] theorem setI2c_node (v : I2c) : (s.setI2c k v).node j = s.node j := rfl
@[simp] theorem setI2c_turn (v : I2c) : (s.setI2c k v).turn j = s.turn j := rfl
@[simp] theorem setI2c_desc (v : I2c) : (s.setI2c k v).desc j = s.desc j := rfl
@[simp] theorem setI2c_req (v : I2c) : (s.setI2c k v).req j = s.req j := rfl
@[simp] theorem setI2c_ec (v : I2c) : (s.setI2c k v).ec j = s.ec j := rfl
@[simp] theorem setI2c_phase (v : I2c) : (s.setI2c k v).phase j = s.phase j := rfl
@[simp] theorem setI2c_pin (v : I2c) : (s.setI2c k v).pin j = s.pin j := rfl
@[simp] theorem setI2c_pinBank (v : I2c) : (s.setI2c k v).pinBank j = s.pinBank j := rfl
@[simp] theorem setI2c_region (v : I2c) : (s.setI2c k v).region j = s.region j := rfl
@[simp] theorem setI2c_frame (v : I2c) : (s.setI2c k v).frame j = s.frame j := rfl
@[simp] theorem setI2c_uart (v : I2c) : (s.setI2c k v).uart j = s.uart j := rfl
@[simp] theorem setI2c_spi (v : I2c) : (s.setI2c k v).spi j = s.spi j := rfl
@[simp] theorem setI2c_i2c (v : I2c) : (s.setI2c k v).i2c j = if j = k then v else s.i2c j :=
  SMap.read_write _ _ _ _ _
@[simp] theorem setI2c_timer (v : I2c) : (s.setI2c k v).timer j = s.timer j := rfl

/-! ### timer -/

@[simp] theorem modTimer_eq (f : Timer → Timer) : s.modTimer k f = s.setTimer k (f (s.timer k)) := rfl
@[simp] theorem setTimer_pending (v : Timer) : (s.setTimer k v).pending = s.pending := rfl
@[simp] theorem setTimer_time (v : Timer) : (s.setTimer k v).time = s.time := rfl
@[simp] theorem setTimer_freeCtr (v : Timer) : (s.setTimer k v).freeCtr = s.freeCtr := rfl
@[simp] theorem setTimer_memEpoch (v : Timer) : (s.setTimer k v).memEpoch = s.memEpoch := rfl
@[simp] theorem setTimer_mem (v : Timer) : (s.setTimer k v).mem = s.mem := rfl
@[simp] theorem setTimer_cores (v : Timer) : (s.setTimer k v).cores = s.cores := rfl
@[simp] theorem setTimer_quince (v : Timer) : (s.setTimer k v).quince = s.quince := rfl
@[simp] theorem setTimer_tiles (v : Timer) : (s.setTimer k v).tiles = s.tiles := rfl
@[simp] theorem setTimer_wires (v : Timer) : (s.setTimer k v).wires = s.wires := rfl
@[simp] theorem setTimer_pacers (v : Timer) : (s.setTimer k v).pacers = s.pacers := rfl
@[simp] theorem setTimer_lace (v : Timer) : (s.setTimer k v).lace = s.lace := rfl
@[simp] theorem setTimer_tapQueue (v : Timer) : (s.setTimer k v).tapQueue = s.tapQueue := rfl
@[simp] theorem setTimer_seams (v : Timer) : (s.setTimer k v).seams = s.seams := rfl
@[simp] theorem setTimer_clk (v : Timer) : (s.setTimer k v).clk = s.clk := rfl
@[simp] theorem setTimer_pins (v : Timer) : (s.setTimer k v).pins = s.pins := rfl
@[simp] theorem setTimer_cfg (v : Timer) : (s.setTimer k v).cfg = s.cfg := rfl
@[simp] theorem setTimer_intc (v : Timer) : (s.setTimer k v).intc = s.intc := rfl
@[simp] theorem setTimer_pwr (v : Timer) : (s.setTimer k v).pwr = s.pwr := rfl
@[simp] theorem setTimer_flt (v : Timer) : (s.setTimer k v).flt = s.flt := rfl
@[simp] theorem setTimer_dev (v : Timer) : (s.setTimer k v).dev = s.dev := rfl
@[simp] theorem setTimer_bist (v : Timer) : (s.setTimer k v).bist = s.bist := rfl
@[simp] theorem setTimer_pert (v : Timer) : (s.setTimer k v).pert = s.pert := rfl
@[simp] theorem setTimer_jtag (v : Timer) : (s.setTimer k v).jtag = s.jtag := rfl
@[simp] theorem setTimer_core (v : Timer) : (s.setTimer k v).core j = s.core j := rfl
@[simp] theorem setTimer_tile (v : Timer) : (s.setTimer k v).tile j = s.tile j := rfl
@[simp] theorem setTimer_pacer (v : Timer) : (s.setTimer k v).pacer j = s.pacer j := rfl
@[simp] theorem setTimer_seam (v : Timer) : (s.setTimer k v).seam j = s.seam j := rfl
@[simp] theorem setTimer_node (v : Timer) : (s.setTimer k v).node j = s.node j := rfl
@[simp] theorem setTimer_turn (v : Timer) : (s.setTimer k v).turn j = s.turn j := rfl
@[simp] theorem setTimer_desc (v : Timer) : (s.setTimer k v).desc j = s.desc j := rfl
@[simp] theorem setTimer_req (v : Timer) : (s.setTimer k v).req j = s.req j := rfl
@[simp] theorem setTimer_ec (v : Timer) : (s.setTimer k v).ec j = s.ec j := rfl
@[simp] theorem setTimer_phase (v : Timer) : (s.setTimer k v).phase j = s.phase j := rfl
@[simp] theorem setTimer_pin (v : Timer) : (s.setTimer k v).pin j = s.pin j := rfl
@[simp] theorem setTimer_pinBank (v : Timer) : (s.setTimer k v).pinBank j = s.pinBank j := rfl
@[simp] theorem setTimer_region (v : Timer) : (s.setTimer k v).region j = s.region j := rfl
@[simp] theorem setTimer_frame (v : Timer) : (s.setTimer k v).frame j = s.frame j := rfl
@[simp] theorem setTimer_uart (v : Timer) : (s.setTimer k v).uart j = s.uart j := rfl
@[simp] theorem setTimer_spi (v : Timer) : (s.setTimer k v).spi j = s.spi j := rfl
@[simp] theorem setTimer_i2c (v : Timer) : (s.setTimer k v).i2c j = s.i2c j := rfl
@[simp] theorem setTimer_timer (v : Timer) : (s.setTimer k v).timer j = if j = k then v else s.timer j :=
  SMap.read_write _ _ _ _ _

end State
end Sys2Proof.Machine
end

