-- ==== Sys2Proof/Laws/Ops.lean ====
section
/-! SUPPORT. What the shared operations can do, said once: memory and its canonical form, registers, a
fetch, an instruction that retires, and a trap. -/

namespace Sys2Proof.Machine
namespace State

/-! ### Memory -/

@[simp] theorem setByte_byte (s : State) (a b : Nat) (v : Byte) :
    (s.setByte a v).byte b = if b = a then v else s.byte b := SMap.read_write _ _ _ _ _

@[simp] theorem setByte_ecc (s : State) (a : Nat) (v : Byte) : (s.setByte a v).mem.ecc = s.mem.ecc := rfl
@[simp] theorem setEcc_cells (s : State) (w : Nat) (e : Option Ecc) :
    (s.setEcc w e).mem.cells = s.mem.cells := rfl
@[simp] theorem setEcc_byte (s : State) (w b : Nat) (e : Option Ecc) : (s.setEcc w e).byte b = s.byte b := rfl

/-- Writing one byte keeps memory canonical. -/
theorem setByte_wf (s : State) (a : Nat) (v : Byte) (h : s.mem.wf = true) :
    (s.setByte a v).mem.wf = true := by
  simp only [Memory.wf, Bool.and_eq_true] at h ⊢
  exact ⟨SMap.wf_write _ _ _ _ h.1, h.2⟩

/-- Setting the code of a word keeps memory canonical. -/
theorem setEcc_wf (s : State) (w : Nat) (e : Option Ecc) (h : s.mem.wf = true) :
    (s.setEcc w e).mem.wf = true := by
  simp only [Memory.wf, Bool.and_eq_true] at h ⊢
  refine ⟨h.1, ?_⟩
  cases e with
  | none => exact SMap.rises_erase _ 0 _ h.2
  | some v => exact SMap.rises_put _ _ _ h.2

/-- Writing the enabled bytes of a word keeps memory canonical. -/
theorem putWord_wf (s : State) (w : Nat) (en : BitVec 4) (d : Word) (h : s.mem.wf = true) :
    (s.putWord w en d).mem.wf = true := by
  have step : ∀ (t : State) (c : Bool) (a : Nat) (v : Byte), t.mem.wf = true →
      (if c then t.setByte a v else t).mem.wf = true := by
    intro t c a v ht
    split
    · exact setByte_wf t a v ht
    · exact ht
  exact step _ _ _ _ (step _ _ _ _ (step _ _ _ _ (step _ _ _ _ h)))

/-- Clearing a run of words keeps memory canonical (R124). -/
theorem clearWords_wf (s : State) (lo n : Nat) (h : s.mem.wf = true) :
    (s.clearWords lo n).mem.wf = true := by
  simp only [Memory.wf, Bool.and_eq_true] at h ⊢
  exact ⟨SMap.wf_filter _ _ _ h.1, SMap.rises_filter _ 0 _ h.2⟩

/-- The bytes of a word after a write of its enabled bytes; every other byte stays. -/
theorem putWord_byte (s : State) (w a : Nat) (en : BitVec 4) (d : Word) :
    (s.putWord w en d).byte a =
      if a / 4 = w ∧ en.getLsbD (a % 4) = true then byteOf d (a % 4) else s.byte a := by
  have e : ∀ (t : State) (c : Bool) (x : Nat) (v : Byte),
      (if c then t.setByte x v else t).byte a = if a = x ∧ c = true then v else t.byte a := by
    intro t c x v
    cases c <;> simp
  simp only [putWord]
  show State.byte (if en.getLsbD 3 then _ else _) a = _
  rw [e, e, e, e]
  have h4 : a % 4 = 0 ∨ a % 4 = 1 ∨ a % 4 = 2 ∨ a % 4 = 3 := by omega
  rcases h4 with h | h | h | h <;> rw [h]
  · have e3 : (a = 4 * w + 3) = False := eq_false (by omega)
    have e2 : (a = 4 * w + 2) = False := eq_false (by omega)
    have e1 : (a = 4 * w + 1) = False := eq_false (by omega)
    have e0 : (a = 4 * w) = (a / 4 = w) := propext ⟨fun _ => by omega, fun _ => by omega⟩
    simp [e0, e1, e2, e3]
  · have e3 : (a = 4 * w + 3) = False := eq_false (by omega)
    have e2 : (a = 4 * w + 2) = False := eq_false (by omega)
    have e1 : (a = 4 * w + 1) = (a / 4 = w) := propext ⟨fun _ => by omega, fun _ => by omega⟩
    have e0 : (a = 4 * w) = False := eq_false (by omega)
    simp [e0, e1, e2, e3]
  · have e3 : (a = 4 * w + 3) = False := eq_false (by omega)
    have e2 : (a = 4 * w + 2) = (a / 4 = w) := propext ⟨fun _ => by omega, fun _ => by omega⟩
    have e1 : (a = 4 * w + 1) = False := eq_false (by omega)
    have e0 : (a = 4 * w) = False := eq_false (by omega)
    simp [e0, e1, e2, e3]
  · have e3 : (a = 4 * w + 3) = (a / 4 = w) := propext ⟨fun _ => by omega, fun _ => by omega⟩
    have e2 : (a = 4 * w + 2) = False := eq_false (by omega)
    have e1 : (a = 4 * w + 1) = False := eq_false (by omega)
    have e0 : (a = 4 * w) = False := eq_false (by omega)
    simp [e0, e1, e2, e3]

/-- A write of enabled bytes changes memory and the model's write count alone. -/
theorem putWord_eq (s : State) (w : Nat) (en : BitVec 4) (d : Word) :
    s.putWord w en d = { s with mem := (s.putWord w en d).mem, memEpoch := s.memEpoch + 1 } := by
  unfold putWord
  split <;> split <;> split <;> split <;> rfl

@[simp] theorem putWord_ecc (s : State) (w : Nat) (en : BitVec 4) (d : Word) :
    (s.putWord w en d).mem.ecc = s.mem.ecc := by
  unfold putWord
  split <;> split <;> split <;> split <;> rfl

/-! ### Reports -/

@[simp] theorem report_core (s : State) (r : Report) (k : Nat) : (s.report r).core k = s.core k := rfl
@[simp] theorem report_mem (s : State) (r : Report) : (s.report r).mem = s.mem := rfl
@[simp] theorem report_quince (s : State) (r : Report) : (s.report r).quince = s.quince := rfl

/-! ### Registers (R125, R164) -/

/-- g0 reads as zero in every bank (R125). -/
@[simp] theorem regIn_g0 (s : State) (c b : Nat) : s.regIn c b 0 = 0 := rfl

/-- A write to g0 is discarded (R125). -/
@[simp] theorem setRegIn_g0 (s : State) (c b : Nat) (v : Word) : s.setRegIn c b 0 v = s := rfl

/-- A read of a register after a write of one. -/
theorem regIn_setRegIn (s : State) (c b n k d m : Nat) (v : Word) (hn : n < 16) (hm : m < 16) :
    (s.setRegIn c b n v).regIn k d m =
      if k = c ∧ d = b ∧ m = n ∧ n ≠ 0 then v else s.regIn k d m := by
  unfold setRegIn regIn
  by_cases h0 : m = 0
  · by_cases hn0 : n = 0 <;> (simp [h0, hn0]; try omega)
  · by_cases hn0 : n = 0
    · simp [h0, hn0]
    · simp only [if_neg h0, if_neg hn0, modCore_eq, setCore_core]
      by_cases hk : k = c
      · subst hk
        simp only [if_true, SMap.read_write]
        have : 16 * d + m = 16 * b + n ↔ d = b ∧ m = n := by omega
        simp [this, hn0]
      · simp [hk]

/-- A register write changes the registers of one core alone. -/
theorem setRegIn_core (s : State) (c b n k : Nat) (v : Word) :
    (s.setRegIn c b n v).core k =
      { s.core k with regs := ((s.setRegIn c b n v).core k).regs } := by
  unfold setRegIn
  split
  · rfl
  · simp only [modCore_eq, setCore_core]
    split
    · subst_vars; rfl
    · rfl

theorem setRegIn_eq (s : State) (c b n : Nat) (v : Word) :
    s.setRegIn c b n v = { s with cores := (s.setRegIn c b n v).cores } := by
  unfold setRegIn
  split <;> rfl

@[simp] theorem setRegIn_quince (s : State) (c b n : Nat) (v : Word) :
    (s.setRegIn c b n v).quince = s.quince := by
  rw [setRegIn_eq]

theorem setRegIn_other (s : State) (c b n k : Nat) (v : Word) (h : k ≠ c) :
    (s.setRegIn c b n v).core k = s.core k := by
  unfold setRegIn
  split
  · rfl
  · simp [h]

/-! ### Boundaries, retirement and traps (R149–R151, R154, R165) -/

/-- What an instruction boundary does when no deferred trap is due: nothing, or a stop that a step or a
halt asked for. -/
theorem boundary_eq (c : Nat) (s : State) (h : (s.core c).storeErr = none) :
    s.boundary c =
      if (s.core c).stepping || (s.core c).haltPend then
        if c = 128 then
          { s with quince := { s.quince with dbgHalted := true, dbgDone := true } }.setCore c
            { s.core c with stepping := false, haltPend := false }
        else s.setCore c { s.core c with
          state := .halted, cause := .haltreq, epc := (s.core c).pc, epcAt := some s.time, eaddr := 0,
          deferred := false, wait := none, haltPend := false, stepping := false }
      else s := by
  unfold boundary
  have h0 : (s.core c).storeErr.isNone = true := by rw [h]; rfl
  simp only [h0, and_true]
  by_cases hb : (s.core c).stepping = true ∨ (s.core c).haltPend = true
  · have hb' : ((s.core c).stepping || (s.core c).haltPend) = true := by simpa using hb
    simp only [hb, hb', if_true]
    by_cases hc : c = 128
    · simp only [if_pos hc]; rfl
    · simp only [if_neg hc]; rfl
  · have hb' : ((s.core c).stepping || (s.core c).haltPend) = false := by
      simpa [not_or, Bool.or_eq_false_iff] using hb
    simp only [hb, hb', if_false]
    simp

/-- A Cobbler that stops: its core and the fault manager's inbox, and nothing else (R150, R151, R355). -/
theorem stopCobbler_eq (e : Nat) (k : Cause) (epc eaddr : Word) (d : Bool) (s : State) :
    s.stopCobbler e k epc eaddr d =
      { s.setCore e { s.core e with
          state := k.state, cause := k, epc := epc, epcAt := some s.time, eaddr := eaddr, deferred := d,
          wait := none, haltPend := false, stepping := false } with
        flt := if k.isEngTrap then { s.flt with inbox := s.flt.inbox ++
          [{ Report.of 0x05 with
            time := word s.time, tile := e, cause := k.code, detail := epc, injected := s.provoked e k eaddr }] }
          else s.flt } := by
  unfold stopCobbler
  split <;> rfl

/-! ### Reads of memory and fetches (R113–R115, R134) -/

/-- Ends of Lace waiters change Lace alone (R173). -/
theorem endWaiters_frame (s : State) (p : Waiter → Bool) (how : Option Nat) :
    ∃ l, s.endWaiters p how = { s with lace := l } := by
  have step : ∀ (t : State) (w : Waiter), ∃ l, t.endWaiter how w = { t with lace := l } := by
    intro t w
    unfold endWaiter
    split <;> exact ⟨_, rfl⟩
  have fold : ∀ (ws : List Waiter) (t : State), ∃ l, ws.foldl (State.endWaiter how) t = { t with lace := l } := by
    intro ws
    induction ws with
    | nil => intro t; exact ⟨_, rfl⟩
    | cons w r ih =>
      intro t
      obtain ⟨l, e⟩ := step t w
      rw [List.foldl_cons, e]
      obtain ⟨l2, e2⟩ := ih { t with lace := l }
      exact ⟨l2, e2⟩
  exact fold _ _

/-- Finding a double-bit error poisons the word and reports it; a fourth one fences the bank (R115, R117). -/
theorem foundUe_frame (wa : Nat) (i : Bool) (s : State) :
    ∃ ti la de fl bi pe, s.foundUe wa i = { s with
      mem := { s.mem with ecc := SMap.insert (SMap.erase s.mem.ecc wa) wa .poison }
      tiles := ti, lace := la, dev := de, flt := fl, bist := bi, pert := pe } := by
  unfold foundUe
  dsimp only
  generalize (if i = true then wa :: List.filter (fun x => decide (x ≠ wa)) (s.setEcc wa (some .poison)).pert.poisoned
    else List.filter (fun x => decide (x ≠ wa)) (s.setEcc wa (some .poison)).pert.poisoned) = ps
  match memOf wa with
  | .bank t =>
    dsimp only
    split
    · unfold fenceBank
      dsimp only
      exact (endWaiters_frame _ _ (some 7)).elim (fun l e => ⟨_, _, _, _, _, _, congrArg _ e⟩)
    · exact ⟨_, _, _, _, _, _, rfl⟩
  | .engine e => exact ⟨_, _, _, _, _, _, rfl⟩
  | .qsram => exact ⟨_, _, _, _, _, _, rfl⟩

/-- A read of memory changes the code of the word and what an error found there brings about, and nothing
of any core (R113–R117). -/
theorem memRead_frame (s : State) (wa : Nat) :
    ∃ ec ti la de fl bi pe, (s.memRead wa).2 = { s with
      mem := { s.mem with ecc := ec }, tiles := ti, lace := la, dev := de, flt := fl, bist := bi, pert := pe } := by
  unfold memRead
  split
  · exact ⟨_, _, _, _, _, _, _, rfl⟩
  · unfold countCe
    split <;> exact ⟨_, _, _, _, _, _, _, rfl⟩
  · obtain ⟨ti, la, de, fl, bi, pe, e⟩ := foundUe_frame wa _ s
    exact ⟨_, ti, la, de, fl, bi, pe, e⟩
  · exact ⟨_, _, _, _, _, _, _, rfl⟩

/-- A read of a word whose code is clean gives its bytes and changes nothing (R113). -/
theorem memRead_clean (s : State) (wa : Nat) (h : s.eccAt wa = none) :
    s.memRead wa = (.data (s.wordAt wa), s) := by
  unfold memRead
  rw [h]

/-- Finding an error keeps memory canonical. -/
theorem foundUe_wf (s : State) (wa : Nat) (i : Bool) (h : s.mem.wf = true) :
    (s.foundUe wa i).mem.wf = true := by
  obtain ⟨ti, la, de, fl, bi, pe, e⟩ := foundUe_frame wa i s
  rw [e]
  simp only [Memory.wf, Bool.and_eq_true] at h ⊢
  exact ⟨h.1, SMap.rises_put _ _ _ h.2⟩

theorem countCe_mem (s : State) (wa : Nat) : (s.countCe wa).mem = s.mem := by
  unfold countCe
  split <;> rfl

/-- A read keeps memory canonical. -/
theorem memRead_wf (s : State) (wa : Nat) (h : s.mem.wf = true) : (s.memRead wa).2.mem.wf = true := by
  unfold memRead
  split
  · exact h
  · exact setEcc_wf _ _ _ (by rw [countCe_mem]; exact h)
  · exact foundUe_wf s wa _ h
  · exact h

/-- A write keeps memory canonical. -/
theorem memWrite_wf (s : State) (wa : Nat) (en : BitVec 4) (d : Word) (h : s.mem.wf = true) :
    (s.memWrite wa en d).2.mem.wf = true := by
  unfold memWrite
  split
  · exact setEcc_wf _ _ _ (putWord_wf _ _ _ _ h)
  · split
    · exact putWord_wf _ _ _ _ h
    · exact putWord_wf _ _ _ _ (setEcc_wf _ _ _ (by rw [countCe_mem]; exact h))
    · exact foundUe_wf s wa _ h
    · exact h

/-- An atomic operation keeps memory canonical. -/
theorem memAtomic_wf (s : State) (wa : Nat) (f : Word → Word) (h : s.mem.wf = true) :
    (s.memAtomic wa f).2.mem.wf = true := by
  have r := memRead_wf s wa h
  unfold memAtomic
  split
  · rename_i e; rw [e] at r; exact setEcc_wf _ _ _ (putWord_wf _ _ _ _ r)
  · rename_i e; rw [e] at r; exact r

/-- A fetch changes what a read of memory changes, and nothing of any core (R134). -/
theorem fetch_frame (s : State) (c : Nat) (f : Option Word) :
    ∃ ec ti la de fl bi pe, (s.fetch c f).2 = { s with
      mem := { s.mem with ecc := ec }, tiles := ti, lace := la, dev := de, flt := fl, bist := bi, pert := pe } := by
  unfold fetch
  dsimp only
  split
  · split
    · exact ⟨_, _, _, _, _, _, _, rfl⟩
    · split
      · split
        · exact ⟨_, _, _, _, _, _, _, rfl⟩
        · rename_i wa _ _ _ _ _
          have m := memRead_frame s wa
          revert m
          rcases s.memRead wa with ⟨r, s1⟩
          cases r <;> exact id
      · rename_i wa _ _ _
        have m := memRead_frame s wa
        revert m
        rcases s.memRead wa with ⟨r, s1⟩
        cases r <;> exact id
  · exact ⟨_, _, _, _, _, _, _, rfl⟩
  · exact ⟨_, _, _, _, _, _, _, rfl⟩

/-- The state that a fetch leaves has the cores and Quince's registers of the state before. -/
theorem fetch_keeps {s s1 : State} {c : Nat} {f : Option Word} {r : Fetched} (h : s.fetch c f = (r, s1)) :
    s1.cores = s.cores ∧ s1.quince = s.quince ∧ s1.time = s.time ∧ s1.pending = s.pending ∧
      s1.mem.cells = s.mem.cells := by
  have e : s1 = (s.fetch c f).2 := by rw [h]
  obtain ⟨ec, ti, la, de, fl, bi, pe, g⟩ := fetch_frame s c f
  rw [e, g]
  exact ⟨rfl, rfl, rfl, rfl, rfl⟩

/-- A fetch keeps memory canonical. -/
theorem fetch_wf {s s1 : State} {c : Nat} {f : Option Word} {r : Fetched} (h : s.fetch c f = (r, s1))
    (w : s.mem.wf = true) : s1.mem.wf = true := by
  have e : s1 = (s.fetch c f).2 := by rw [h]
  rw [e]
  unfold fetch
  dsimp only
  split
  · split
    · exact w
    · split
      · split
        · exact w
        · rename_i wa _ _ _ _ _
          have m := memRead_wf s wa w
          revert m
          rcases s.memRead wa with ⟨r, s1⟩
          cases r <;> exact id
      · rename_i wa _ _ _
        have m := memRead_wf s wa w
        revert m
        rcases s.memRead wa with ⟨r, s1⟩
        cases r <;> exact id
  · exact w
  · exact w

end State
end Sys2Proof.Machine
end

