-- ==== Sys2Proof/Laws/Cores.lean ====
section
/-! SUPPORT. What an instruction that retires and one that traps leave, in the words of Safety.lean. -/

namespace Sys2Proof.Laws

open Sys2Proof Sys2Proof.Machine Sys2Proof.Says

/-- A core that may issue waits for nothing, has no load outstanding and no deferred trap due. -/
theorem canIssue_core {s : State} {c : CoreId} (h : s.canIssue c = true) :
    (s.core c).load = none ∧ (s.core c).wait = none ∧ (s.core c).storeErr = none ∧
      (c.val ≠ 128 → (s.core c).state = .running) := by
  unfold State.canIssue State.runs at h
  simp only [Bool.and_eq_true, Option.isNone_iff_eq_none] at h
  refine ⟨h.1, h.2.1.1, h.2.1.2, fun hc => ?_⟩
  have := h.2.2
  rw [if_neg hc] at this
  simpa using this

/-- The command of an instruction that issues runs its body on the state after the fetch. -/
theorem runInstr_issues {c : CoreId} {f : Option Word} {s s1 : State} {w : Word} (h : Issues c f s w s1)
    (mine : Word → Bool) (body : Nat → Word → State → State) (m : mine w = true) :
    runInstr c f mine body s = body c w s1 := by
  obtain ⟨h1, h2, h3, h4⟩ := h
  unfold runInstr
  rw [if_pos h1]
  simp only [h2, h3, m, h4]
  simp

/-- An instruction that retires with register `rd` written is done. -/
theorem retire_done (c : CoreId) (p : Word) (rd : Nat) (hrd : rd < 16) (v : Word) (s : State)
   (h1 : (s.core c).storeErr = none) (h2 : (s.core c).wait = none)
   (h3 : c.val ≠ 128 → (s.core c).state = .running) :
   Done c (s.core c) p rd v s ((s.setReg c rd v).retire c p) := by
  unfold State.setReg
  set b := s.bankOf c with hb
  set u := s.setRegIn c b rd v with hu
  have uc : u.core c = { s.core c with regs := (u.core c).regs } := State.setRegIn_core ..
  have ueq : u = { s with cores := u.cores } := State.setRegIn_eq ..
  have uo : ∀ k, k ≠ c.val → u.core k = s.core k := fun k hk => State.setRegIn_other _ _ _ _ _ _ hk
  have ur : ∀ d m, m < 16 → u.regIn c d m = if m = rd ∧ m ≠ 0 ∧ d = b then v else s.regIn c d m := by
    intro d m hm
    rw [hu, State.regIn_setRegIn _ _ _ _ _ _ _ _ hrd hm]
    congr 1
    apply propext
    constructor
    · rintro ⟨_, rfl, rfl, h⟩; exact ⟨rfl, h, rfl⟩
    · rintro ⟨rfl, h, rfl⟩; exact ⟨rfl, rfl, rfl, h⟩
  clear_value u
  set w := u.setCore c { (u.core c).count with pc := p, wait := none, state := if c.val = 128 then (u.core c).state else .running } with hw
  have e : u.retire c p = w.boundary c := rfl
  have wc : w.core c = { (u.core c).count with pc := p, wait := none, state := if c.val = 128 then (u.core c).state else .running } := by simp [hw]
  have we : (w.core c).storeErr = none := by rw [wc, uc]; exact h1
  rw [e, State.boundary_eq _ _ we]
  have wr : ∀ d m, w.regIn c d m = u.regIn c d m := by
    intro d m; unfold State.regIn; rw [wc]; rfl
  have wo : ∀ k, k ≠ c.val → w.core k = u.core k := by intro k hk; simp [hw, hk]
  have weq : w = { u with cores := w.cores } := rfl
  have ws : (w.core c).stepping = (s.core c).stepping := by rw [wc, uc]; rfl
  have wh : (w.core c).haltPend = (s.core c).haltPend := by rw [wc, uc]; rfl
  rw [ws, wh]
  obtain ⟨r, wc2⟩ : ∃ r, w.core c = { s.core c with pc := p, regs := r, instret := ((s.core c).instret + 1) % 2^64 } := by
    refine ⟨(w.core c).regs, ?_⟩
    rw [wc, uc]
    simp only [Core.count]
    by_cases hc : c.val = 128
    · rw [if_pos hc, ← h2]
    · rw [if_neg hc, ← h2, ← h3 hc]
  have wrr : ∀ d m, m < 16 → w.regIn c d m = if m = rd ∧ m ≠ 0 ∧ d = b then v else s.regIn c d m := by
    intro d m hm; rw [wr, ur d m hm]
  have wq : w.quince = s.quince := by rw [weq, ueq]
  have wall : w = { s with cores := w.cores } := by rw [weq, ueq]
  clear_value w
  clear hw wc weq e ws wh wr uc ueq ur hu
  have hgoal : ∀ (y : Core) (q : Quince), y.regs = (w.core c).regs → q = wentQuince c (s.core c) s.quince → y = went c p y.regs s.time (s.core c) →
      Done c (s.core c) p rd v s ({ w with quince := q }.setCore c y) := by
    intro y q hy hq hw
    refine ⟨?_, ?_, ?_, ?_⟩
    · rw [hq, wall]; rfl
    · intro k hk
      rw [State.setCore_core, if_neg hk]
      exact (wo k hk).trans (uo k hk)
    · rw [State.setCore_core, if_pos rfl]
      exact hw
    · intro d m hm
      rw [← wrr d m hm]
      unfold State.regIn
      rw [State.setCore_core, if_pos rfl, hy]
  by_cases hb : ((s.core c).stepping || (s.core c).haltPend) = true
  · rw [if_pos hb]
    by_cases hc : c.val = 128
    · rw [if_pos hc]
      apply hgoal
      · rfl
      · unfold wentQuince; rw [if_pos ⟨hc, hb⟩, wq]
      · unfold went; rw [if_pos hb, if_pos hc, wc2]
    · rw [if_neg hc]
      have := hgoal { w.core c with
          state := .halted, cause := .haltreq, epc := (w.core c).pc, epcAt := some w.time, eaddr := 0, deferred := false,
          wait := none, haltPend := false, stepping := false } w.quince rfl
          (by unfold wentQuince; rw [if_neg (by simp [hc]), wq])
          (by
            have wt : w.time = s.time := by rw [wall]
            unfold went; rw [if_pos hb, if_neg hc, wc2]; simp [h2, wt])
      exact this
  · rw [if_neg hb]
    have := hgoal (w.core c) w.quince rfl
          (by unfold wentQuince; rw [if_neg (by simp [hb]), wq])
          (by unfold went; rw [if_neg hb, wc2])
    refine ⟨?_, ?_, ?_, ?_⟩
    · unfold wentQuince; rw [if_neg (by simp [hb])]; exact wall
    · exact fun k hk => (wo k hk).trans (uo k hk)
    · unfold went; rw [if_neg hb, wc2]
    · exact wrr

/-- An instruction that retires with no register written is done. -/
theorem retire_plain (c : CoreId) (p : Word) (s : State)
    (h1 : (s.core c).storeErr = none) (h2 : (s.core c).wait = none)
    (h3 : c.val ≠ 128 → (s.core c).state = .running) :
    Done c (s.core c) p 0 0 s (s.retire c p) := retire_done c p 0 (by omega) 0 s h1 h2 h3

/-- An instruction that issued and retires is done, with the registers as they were before the fetch. -/
theorem issue_done {c : CoreId} {f : Option Word} {s s1 : State} {w : Word} (h : Issues c f s w s1)
    (p : Word) (rd : Nat) (hrd : rd < 16) (v : Word) :
    Done c (s.core c) p rd v s1 ((s1.setReg c rd v).retire c p) := by
  obtain ⟨h1, h2, h3, h4⟩ := canIssue_core h.1
  have k := State.fetch_keeps h.2.1
  have e : s1.core c = s.core c := by unfold State.core; rw [k.1]
  rw [← e] at h2 h3 h4 ⊢
  exact retire_done c p rd hrd v s1 h3 h2 h4

/-- A register reads the same before the fetch and after it. -/
theorem issue_reg {c : CoreId} {f : Option Word} {s s1 : State} {w : Word} (h : Issues c f s w s1) (n : Nat) :
    s1.reg c n = s.reg c n := by
  have k := State.fetch_keeps h.2.1
  unfold State.reg State.regIn State.bankOf State.core
  rw [k.1, k.2.1]

/-- The core is the same before the fetch and after it. -/
theorem issue_core {c : CoreId} {f : Option Word} {s s1 : State} {w : Word} (h : Issues c f s w s1) (n : Nat) :
    s1.core n = s.core n := by
  unfold State.core
  rw [(State.fetch_keeps h.2.1).1]

/-- A trap is a trap (R150, R151, R165), for the causes that an instruction has. -/
theorem trap_trapped (c : CoreId) (k : Cause) (epc eaddr : Word) (s : State)
    (hk : k.isEngTrap = true ∨ k = .sys ∨ k = .halt) (he : (s.core c).storeErr = none) :
    Trapped c k epc eaddr s (s.trap c k epc eaddr) := by
  unfold State.trap
  by_cases hc : c.val = 128
  · rw [if_pos hc]
    have hcb : ∀ (u : State), (u.core 128).storeErr = none →
        (∀ j, j ≠ 128 → (u.boundary 128).core j = u.core j) ∧
        ((u.boundary 128).core 128).regs = (u.core 128).regs ∧
        ((u.boundary 128).core 128).stores = (u.core 128).stores ∧
        ((u.boundary 128).core 128).instret = (u.core 128).instret ∧
        ((u.boundary 128).core 128).pc = (u.core 128).pc ∧
        (∃ a b, (u.boundary 128).quince = { u.quince with dbgHalted := a, dbgDone := b }) ∧
        u.boundary 128 = { u with cores := (u.boundary 128).cores, quince := (u.boundary 128).quince } := by
      intro u hu
      rw [State.boundary_eq _ _ hu]
      split
      · rw [if_pos rfl]
        refine ⟨?_, ?_, ?_, ?_, ?_, ⟨true, true, rfl⟩, rfl⟩
        · intro j hj; rw [State.setCore_core, if_neg hj]; rfl
        all_goals rw [State.setCore_core, if_pos rfl]
      · exact ⟨fun _ _ => rfl, rfl, rfl, rfl, rfl, ⟨_, _, rfl⟩, rfl⟩
    unfold State.trapQuince
    rw [hc] at he
    unfold Trapped
    rw [hc, if_pos rfl]
    by_cases hx : s.quince.exc = true
    · simp only [if_pos hx]
      obtain ⟨g1, g2, g3, g4, g5, ⟨a, b, g6⟩, g7⟩ := hcb
        ({ s with quince := { s.quince with stopped := true } }.modCore 128 (fun x => { x with wait := none }))
        (by rw [State.modCore_eq, State.setCore_core, if_pos rfl]; exact he)
      refine ⟨?_, ?_, ?_, ?_, ?_, ?_, ?_⟩
      · intro j hj; rw [g1 j hj, State.modCore_eq, State.setCore_core, if_neg hj]; rfl
      · rw [g2, State.modCore_eq, State.setCore_core, if_pos rfl]; rfl
      · rw [g3, State.modCore_eq, State.setCore_core, if_pos rfl]; rfl
      · rw [g4, State.modCore_eq, State.setCore_core, if_pos rfl]; rfl
      · exact g7
      · intro _
        rw [g5, g6, State.modCore_eq, State.setCore_core, if_pos rfl]
        exact ⟨rfl, rfl, rfl, rfl, rfl⟩
      · intro h; rw [hx] at h; cases h
    · simp only [if_neg hx]
      obtain ⟨g1, g2, g3, g4, g5, ⟨a, b, g6⟩, g7⟩ := hcb
        ({ s with quince := { s.quince with
            epc := epc, cause := k, eaddr := eaddr, pie := s.quince.ie, ie := false, exc := true,
            ctxs := .trap :: s.quince.ctxs, stopped := decide (s.quince.vbase = 0x0FFF8000#32) } }.modCore 128
          (fun x => { x with pc := s.quince.vbase, wait := none }))
        (by rw [State.modCore_eq, State.setCore_core, if_pos rfl]; exact he)
      refine ⟨?_, ?_, ?_, ?_, ?_, ?_, ?_⟩
      · intro j hj; rw [g1 j hj, State.modCore_eq, State.setCore_core, if_neg hj]; rfl
      · rw [g2, State.modCore_eq, State.setCore_core, if_pos rfl]; rfl
      · rw [g3, State.modCore_eq, State.setCore_core, if_pos rfl]; rfl
      · rw [g4, State.modCore_eq, State.setCore_core, if_pos rfl]; rfl
      · exact g7
      · intro h; exact absurd h hx
      · intro _
        rw [g5, g6, State.modCore_eq, State.setCore_core, if_pos rfl]
        exact ⟨rfl, rfl, rfl, rfl, rfl, rfl, rfl, rfl⟩
  · rw [if_neg hc, State.stopCobbler_eq]
    unfold Trapped
    rw [if_neg hc]
    have e : ∀ (y : Core) (fl : Flt) (j : Nat), State.core { s.setCore c y with flt := fl } j =
        if j = c.val then y else s.core j := fun y fl j => State.setCore_core s c j y
    refine ⟨?_, ?_, ?_, ?_, ?_, ?_⟩
    · intro j hj; rw [e, if_neg hj]
    · rw [e, if_pos rfl]
    · rw [e, if_pos rfl]
    · rw [e, if_pos rfl]
    · rw [e, if_pos rfl]
    · rcases hk with hk | hk | hk
      · have n : ¬ (k = .sys ∨ k = .halt) := by rintro (rfl | rfl) <;> cases hk
        rw [if_pos hk, if_neg n]
        rfl
      · subst hk; simp [Cause.isEngTrap]
      · subst hk; simp [Cause.isEngTrap]

end Sys2Proof.Laws
end

