-- ==== Sys2Proof/WellFormed.lean ====
section
/-! DEFINITION. Which commands are well formed: the lists that a command carries have the lengths
that the manual gives them. Everything else that an operand can be out of range in is excluded by its
type in Syntax.lean. -/

namespace Sys2Proof

open Sys2Proof.Machine (flashBytes)

/-- The bytes are one whole record: an 8-byte header and as many bytes as its length field says (R263). -/
def recordWhole (b : List Byte) : Bool :=
  decide (8 ≤ b.length) &&
  decide (b.length = 8 + ((b.getD 2 0).toNat + 256 * (b.getD 3 0).toNat))

/-- The levels of the flash's data lines give a whole record in one of the three forms of R256 (sampled as
BOOTSEL 0, 1 and 2); none are needed for a record that comes over JTAG or from memory. -/
def linesWhole (l : List Byte) : Bool :=
  l.isEmpty || recordWhole (flashBytes 0 l) || recordWhole (flashBytes 1 l) || recordWhole (flashBytes 2 l)

/-- The levels give the 32 bytes of a boot table copy in one of the three forms. -/
def tableLines (l : List Byte) : Bool := l.length == 64 || l.length == 32 || l.length == 256

/-- Each code word of a frame is named at most once. -/
def wordsOnce (e : List (Fin 32 × Bool)) : Bool := decide ((e.map (·.1)).Nodup)

/-- An instruction code of the TAP that R249 gives no instruction, or the code of BYPASS itself. -/
def unassigned (code : BitVec 8) : Bool := decide (4 < code.toNat) && code != 0x10 && code != 0x11

/-- A command is well formed. -/
def Instr.wellFormed : Instr → Bool
  | .analogStartup _ codes _ => decide (codes.length = 29)
  | .bootTableRead main backup _ _ => tableLines main && main.length == backup.length
  | .head l => linesWhole l
  | .frame l => linesWhole l
  | .packed l => linesWhole l
  | .dict l => linesWhole l
  | .stamp l => linesWhole l
  | .zero l => linesWhole l
  | .regions l => linesWhole l
  | .seq l => linesWhole l
  | .sigref l => linesWhole l
  | .quince l => linesWhole l
  | .auth l => linesWhole l
  | .endRecord l => linesWhole l
  | .recordRetry l => linesWhole l
  | .scrubFrame e => wordsOnce e
  | .bypass code => unassigned code
  | .debugReservedCommand cmd => decide (8 ≤ cmd.toNat)
  | _ => true

end Sys2Proof
end

