-- ==== Sys2Proof/Tests/Slice0.lean ====
section
/-! SUPPORT. Small tests of single steps, with expected values worked out by hand from the manual's rules, and
for every statement of Certificates/Slice0/Obligations.lean that has hypotheses a state and operands that meet
them, clause by clause (`wit_…`). A hypothesis about an opaque constant of Config stands as a premise. -/

set_option Elab.async false

namespace Sys2Proof.Tests

open Sys2Proof Sys2Proof.Machine Sys2Proof.Says

/-! ### Ill-formed commands are refused (R263, R278, R290, R249, R333) -/

theorem test_codes_short : Instr.wellFormed (.analogStartup 0 [] 0) = false := by decide
theorem test_table_short : Instr.wellFormed (.bootTableRead [] [] none false) = false := by decide
theorem test_record_not_whole :
    ∀ mk ∈ [Instr.head, Instr.frame, Instr.packed, Instr.dict, Instr.stamp, Instr.zero, Instr.regions, Instr.seq,
      Instr.sigref, Instr.quince, Instr.auth, Instr.endRecord, Instr.recordRetry],
      Instr.wellFormed (mk [0x01, 0, 4, 0, 0, 0, 0, 0]) = false ∧ Instr.wellFormed (mk [0x0F, 0, 0, 0, 0, 0, 0]) = false ∧
      Instr.wellFormed (mk [0x0F, 0, 0, 0, 0, 0, 0, 0]) = true := by decide
theorem test_scrub_word_twice : Instr.wellFormed (.scrubFrame [(3, true), (3, false)]) = false := by decide
theorem test_bypass_assigned : Instr.wellFormed (.bypass 0x11) = false ∧ Instr.wellFormed (.bypass 0x12) = true := by decide
theorem test_debug_command : Instr.wellFormed (.debugReservedCommand 7) = false ∧
    Instr.wellFormed (.debugReservedCommand 8) = true := by decide

/-! ### Helpers -/

/-- The state after a command. -/
def go (i : Instr) (s : State) : State :=
  match exec i s with
  | .next t => t
  | _ => { s with time := s.time + 1 }

/-- After reset, with region 0 running. -/
def live : State := State.reset.setRegion 0 { state := .running, mask := 0, loads := 0 }

/-- Instruction words by format (R127). -/
def fA (op rd ra rb fn : Nat) : Word := BitVec.ofNat 32 (op * 2 ^ 26 + rd * 2 ^ 22 + ra * 2 ^ 18 + rb * 2 ^ 14 + fn)
def fI (op rd ra imm : Nat) : Word := BitVec.ofNat 32 (op * 2 ^ 26 + rd * 2 ^ 22 + ra * 2 ^ 18 + imm % 2 ^ 18)
def fJ (op imm : Nat) : Word := BitVec.ofNat 32 (op * 2 ^ 26 + imm % 2 ^ 26)

/-- Cobbler 5 at the start of its local memory, which holds `w`; g1 holds `a` and g2 holds `b`. -/
def at5 (w a b : Word) : State :=
  (live.setCore 5 { Core.init 5 with state := .running, pc := 0x01800000#32, regs := [(1, a), (2, b)] }).putWord
    (localWord 5) 15 w

/-- Quince at 0x0F00_0000, which holds `w`; g1 of the main bank holds `a` and g2 holds `b`. -/
def atQ (w a b : Word) : State :=
  ({ live with quince := { Quince.init with firmware := true, vbase := 0x0F001000#32 } }.setCore 128 { Core.init 128 with
    pc := 0x0F000000#32, regs := [(1, a), (2, b)] }).putWord qsramWord 15 w

/-- A token with bit `l` of `v` on outward lane `l` of port `p` of tile `t`, whose cell drives the port. -/
def outTok (t p v : Nat) (s : State) (l : Nat) : State :=
  let (c, i) := portCluster p l
  let k := frameAddr t 0 c
  (s.setFrame k (s.frame k ||| BitVec.ofNat 2048 (2 ^ (128 * (12 + i) + 99)))).setNode (cellNode t c (12 + i))
    { out := .tok (v.testBit l), ack := false, full := true }

/-- The word `v` on the outward lanes of tap 1 of tile 0. -/
def tapFull (v : Nat) (s : State) : State := (List.range 16).foldl (fun s l => outTok 0 1 v s l) s

/-- A load at `a` for register `rd`, and core `c` with it outstanding. -/
def aLoad (a rd : Nat) : Load :=
  { addr := word a, width := .word, signed := false, rd := rd, pc := 0x01800000#32, regs := [], instret := 0, reply := none }
def withLoad (c a rd : Nat) (s : State) : State := s.modCore c (fun x => { x with load := some (aLoad a rd) })

/-- Quince holds result `h` for its main bank. -/
def holding (h : Held) (s : State) : State := { s with quince := { s.quince with held := [(0, h)] } }

/-- A Cobbler holds no result. -/
theorem wit_NoHeldTap (s : State) (wr : Bool) (a : Word) : NoHeldTap s 5 wr a := fun h => absurd h (by decide)

/-! ### Chapter 06 -/

/-- Results worked out from R130 for ra = 0x8000_0001 and rb = 33. -/
theorem test_alu : (List.range 20).map (fun n =>
    (go ((aluRows.map (·.1)).getD n Instr.add 5 none) (at5 (fA 0 3 1 (if n < 17 then 2 else 0) n) 0x80000001#32 33)).reg 5 3) =
    [0x80000022#32, 0x7FFFFFE0#32, 1, 0x80000021#32, 0x80000020#32, 2, 0x40000000#32, 0xC0000000#32, 1, 0,
     0x80000021#32, 16, 0xFFFFFFEF#32, 65075262, 3, 0x80000001#32, 33, 0, 2, 0x01000080#32] := by decide +kernel

theorem test_divide_by_zero :
    (go (.divu 5 none) (at5 (fA 0 3 1 2 13) 7 0)).reg 5 3 = 0xFFFFFFFF#32 ∧
    (go (.remu 5 none) (at5 (fA 0 3 1 2 14) 7 0)).reg 5 3 = 7 := by decide +kernel

theorem wit_AluResults :
    (opc (fA 0 3 1 2 0) = 0 ∧ Issues 5 none (at5 (fA 0 3 1 2 0) 7 8) (fA 0 3 1 2 0) (at5 (fA 0 3 1 2 0) 7 8) ∧
      (aluRows[fnF (fA 0 3 1 2 0)]?).isSome = true) ∧
    (Issues 128 none (atQ (fA 0 3 1 0 19) 7 8) (fA 0 3 1 0 19) (atQ (fA 0 3 1 0 19) 7 8) ∧
      (aluRows[fnF (fA 0 3 1 0 19)]?).isSome = true) ∧
    ((at5 (fA 0 3 1 2 20) 7 8).canIssue 5 = true ∧
      (at5 (fA 0 3 1 2 20) 7 8).fetch 5 none = (.word (fA 0 3 1 2 20), at5 (fA 0 3 1 2 20) 7 8) ∧
      20 ≤ fnF (fA 0 3 1 2 20) ∧ aluRows ≠ []) ∧
    (∀ rd ∈ [0, 3, 7], let s := withLoad 5 0 rd (at5 (fA 0 3 1 2 0) 7 8)
     Behind 5 none s (fA 0 3 1 2 0) s (aLoad 0 rd) [1, 2]) ∧
    (∀ rd ∈ [1, 2], let s := withLoad 5 0 rd (at5 (fA 0 3 1 2 0) 7 8)
     (s.core 5).load = some (aLoad 0 rd) ∧ s.fetch 5 none = (.word (fA 0 3 1 2 0), s)) := by
  unfold Issues Behind; exact ⟨by decide +kernel, by decide +kernel, ⟨by decide +kernel, by decide +kernel,
    by decide +kernel, by simp [aluRows, aluRowsA]⟩, by decide +kernel, by decide +kernel⟩

/-- R135: behind a load of g7, ADD completes and the load stays; behind a load of g3, its own destination, the data
is dropped when it comes. -/
theorem test_behind_load :
    (let t := go (.add 5 none) (withLoad 5 0 7 (at5 (fA 0 3 1 2 0) 7 8))
     t.reg 5 3 = 15 ∧ (t.core 5).load.isSome = true ∧ (go (.loadResponse 5 none) t).reg 5 3 = 15) ∧
    (go (.loadResponse 5 none) (go (.add 5 none) (withLoad 5 0 3 (at5 (fA 0 3 1 2 0) 7 8)))).reg 5 3 = 15 ∧
    ((go (.add 5 none) (withLoad 5 0 1 (at5 (fA 0 3 1 2 0) 7 8))).core 5).pc = 0x01800000#32 := by decide +kernel

/-- ADDI −1, ANDI, XORI with a zero-extended immediate, SLTI, SHIFTI SRA 4, LUI 1. -/
theorem test_immediates :
    (go (.addi 5 none) (at5 (fI 1 3 1 0x3FFFF) 0 0)).reg 5 3 = 0xFFFFFFFF#32 ∧
    (go (.andi 5 none) (at5 (fI 2 3 1 0x3FFFF) 0xFFFFFFFF#32 0)).reg 5 3 = 0x0003FFFF#32 ∧
    (go (.xori 5 none) (at5 (fI 4 3 1 0x20000) 0 0)).reg 5 3 = 0x00020000#32 ∧
    (go (.slti 5 none) (at5 (fI 5 3 1 0x3FFFF) 0xFFFFFFFE#32 0)).reg 5 3 = 1 ∧
    (go (.shiftiSra 5 none) (at5 (fI 6 3 1 0x44) 0x80000000#32 0)).reg 5 3 = 0xF8000000#32 ∧
    (go (.lui 5 none) (at5 (fI 7 3 0 1) 0 0)).reg 5 3 = 0x00004000#32 := by decide +kernel

theorem wit_ImmediateResults :
    (Issues 5 none (at5 (fI 6 3 1 0x5F) 7 8) (fI 6 3 1 0x5F) (at5 (fI 6 3 1 0x5F) 7 8) ∧
      (immRow (fI 6 3 1 0x5F)).isSome = true ∧ (immRow (fI 1 3 1 0)).isSome = true) ∧
    ((at5 (fI 6 3 1 0x60) 7 8).canIssue 5 = true ∧
      (at5 (fI 6 3 1 0x60) 7 8).fetch 5 none = (.word (fI 6 3 1 0x60), at5 (fI 6 3 1 0x60) 7 8) ∧
      opc (fI 6 3 1 0x60) = 0x06 ∧ (fI 6 3 1 0x60).extractLsb' 5 2 = 3) ∧
    (let s := withLoad 5 0 7 (at5 (fI 6 3 1 0x5F) 7 8)
     Behind 5 none s (fI 6 3 1 0x5F) s (aLoad 0 7) [1]) ∧
    (let s := withLoad 5 0 1 (at5 (fI 7 3 0 1) 7 8)
     Behind 5 none s (fI 7 3 0 1) s (aLoad 0 1) []) := by
  unfold Issues Behind; decide +kernel

/-- BEQ not taken, BLT taken backwards by one word, JAL, JALR, and JALR to an address that is not aligned. -/
theorem test_branches :
    ((go (.beq 5 none) (at5 (fI 0x10 1 2 4) 7 8)).core 5).pc = 0x01800004#32 ∧
    ((go (.blt 5 none) (at5 (fI 0x12 1 2 0x3FFFF) 0xFFFFFFFF#32 8)).core 5).pc = 0x017FFFFC#32 ∧
    (let t := go (.jal 5 none) (at5 (fJ 0x16 2) 0 0)
     (t.core 5).pc = 0x01800008#32 ∧ t.reg 5 15 = 0x01800004#32) ∧
    (let t := go (.jalr 5 none) (at5 (fI 0x17 3 1 4) 0x100#32 0)
     (t.core 5).pc = 0x104#32 ∧ t.reg 5 3 = 0x01800004#32) ∧
    (let t := go (.jalr 5 none) (at5 (fI 0x17 3 1 2) 0x100#32 0)
     (t.core 5).state = .faulted ∧ (t.core 5).cause = .align ∧ (t.core 5).eaddr = 0x102#32 ∧ t.reg 5 3 = 0) ∧
    ((go (.jalr 5 none) (at5 (fI 0x17 3 1 2) 0x01200000#32 0)).core 5).cause = .access := by
  decide +kernel

theorem wit_BranchesAndJumps :
    (Issues 5 none (at5 (fI 0x10 1 2 4) 7 7) (fI 0x10 1 2 4) (at5 (fI 0x10 1 2 4) 7 7) ∧
      (branchRow (fI 0x10 1 2 4)).isSome = true) ∧
    (Issues 5 none (at5 (fJ 0x16 2) 0 0) (fJ 0x16 2) (at5 (fJ 0x16 2) 0 0) ∧ opc (fJ 0x16 2) = 0x16) ∧
    (Issues 5 none (at5 (fI 0x17 3 1 4) 0x100#32 0) (fI 0x17 3 1 4) (at5 (fI 0x17 3 1 4) 0x100#32 0) ∧
      opc (fI 0x17 3 1 4) = 0x17 ∧
      ((at5 (fI 0x17 3 1 4) 0x100#32 0).reg 5 (raF (fI 0x17 3 1 4)) +
        ((fI 0x17 3 1 4).setWidth 18 : BitVec 18).signExtend 32).toNat % 4 = 0) ∧
    (Issues 5 none (at5 (fI 0x17 3 1 2) 0x100#32 0) (fI 0x17 3 1 2) (at5 (fI 0x17 3 1 2) 0x100#32 0) ∧
      ((at5 (fI 0x17 3 1 2) 0x100#32 0).reg 5 (raF (fI 0x17 3 1 2)) +
        ((fI 0x17 3 1 2).setWidth 18 : BitVec 18).signExtend 32).toNat % 4 ≠ 0) ∧
    (let s := withLoad 5 0 7 (at5 (fI 0x10 1 2 4) 7 7)
     Behind 5 none s (fI 0x10 1 2 4) s (aLoad 0 7) [1, 2]) ∧
    (let s := withLoad 5 0 7 (at5 (fJ 0x16 2) 0 0)
     Behind 5 none s (fJ 0x16 2) s (aLoad 0 7) []) ∧
    (let s := withLoad 5 0 7 (at5 (fI 0x17 3 1 4) 0x100#32 0)
     Behind 5 none s (fI 0x17 3 1 4) s (aLoad 0 7) [1] ∧
      (s.reg 5 (raF (fI 0x17 3 1 4)) + ((fI 0x17 3 1 4).setWidth 18 : BitVec 18).signExtend 32).toNat % 4 = 0) := by
  unfold Issues Behind; decide +kernel

/-- R128, R140: fields that must be zero, and the register pair of a 64-bit entry. -/
theorem test_word_forms :
    legal 5 (fA 0 3 1 1 17) = false ∧ legal 5 (fA 0 3 1 0 17) = true ∧ legal 5 (fA 0x20 0 1 2 0x14) = true ∧
    legal 5 (fA 0x20 0 1 3 0x14) = false ∧ legal 5 (fA 0x21 2 1 0 0x14) = true ∧ legal 5 (fA 0x21 2 1 0 0x13) = false ∧
    legal 5 (fA 0x21 14 1 0 0x14) = false ∧ legal 128 (fA 0x30 3 1 0 0) = false ∧ legal 128 (fA 0x30 3 0 0 0) = true := by
  decide

/-- An undefined word, and PINR on a Cobbler. -/
theorem wit_IllegalBeforeEffect :
    ((at5 (fJ 0x1A 0) 0 0).canIssue 5 = true ∧
      (at5 (fJ 0x1A 0) 0 0).fetch 5 none = (.word (fJ 0x1A 0), at5 (fJ 0x1A 0) 0 0) ∧
      wordDefined (fJ 0x1A 0) = false ∧ (rowOf 0).isSome = true) ∧
    ((at5 (fI 0x3A 3 1 0) 0 0).canIssue 5 = true ∧
      (at5 (fI 0x3A 3 1 0) 0 0).fetch 5 none = (.word (fI 0x3A 3 1 0), at5 (fI 0x3A 3 1 0) 0 0) ∧
      wordDefined (fI 0x3A 3 1 0) = true ∧ legal 5 (fI 0x3A 3 1 0) = false) := by decide +kernel

/-- A Cobbler just past its local memory, and one whose code word is poisoned. -/
theorem wit_FetchTraps :
    (let s := live.setCore 5 { Core.init 5 with state := .running, pc := 0x01804000#32 }
     s.canIssue 5 = true ∧ s.fetch 5 none = (.trap .access, s) ∧ (rowOf 0).isSome = true) ∧
    (let s := (at5 0 0 0).setEcc (localWord 5) (some .poison)
     s.canIssue 5 = true ∧ s.fetch 5 none = (.trap .ecc, s)) := by decide +kernel

/-- A load of the byte 0x80 at offset 1 of word 0 of bank 0 into g3, ready to be performed. -/
def loading5 : State :=
  ((at5 0 0 0).putWord 0 15 0x11228033#32).modCore 5 (fun x => { x with
    load := some { addr := 1, width := .byte, signed := true, rd := 3, pc := 0x01800000#32, regs := x.regs
                   instret := 0, reply := none } })

theorem test_load :
    ((go (.ldb 5 none) (at5 (fI 0x0B 3 1 1) 0 0)).core 5).load.isSome = true ∧
    (go (.loadResponse 5 none) loading5).reg 5 3 = 0xFFFFFF80#32 ∧
    ((go (.loadResponse 5 none) (loading5.setEcc 0 (some .poison))).core 5).cause = .ecc := by decide +kernel

theorem wit_LoadsIssue :
    (let w := fI 0x08 3 1 0x3FFFC
     Issues 5 none (at5 w 4 0) w (at5 w 4 0) ∧ (opRow w).isSome = true ∧ (loadForm (opc w)).isSome = true ∧
       (at5 w 4 0).accessCheck 5 0 .word .load = none) ∧
    (let w := fI 0x09 3 1 1
     Issues 5 none (at5 w 0 0) w (at5 w 0 0) ∧ (at5 w 0 0).accessCheck 5 1 .half .load = some .align) ∧
    (let w := fI 0x08 3 1 0
     Issues 128 none (atQ w 0 0) w (atQ w 0 0) ∧ (atQ w 0 0).accessCheck 128 0 .word .load = none ∧
       (atQ w 0 0).heldNow = none ∧
     let s := holding (.load 0 (.data 9)) (atQ w 0 0)
     let s1 := holding (.load 0 (.err .access)) (atQ w 0 0)
     Issues 128 none s w s ∧ s.heldNow = some (.load 0 (.data 9)) ∧ (go (.ldw 128 none) s).reg 128 3 = 9 ∧
       Issues 128 none s1 w s1 ∧ s1.heldNow = some (.load 0 (.err .access))) := by
  unfold Issues; decide +kernel

/-- R114, R115: a single-bit error is corrected and counted, a double-bit error poisons, traps and is reported. -/
theorem test_load_errors :
    (let t := go (.loadResponse 5 none) (loading5.setEcc 0 (some (.single none)))
     t.reg 5 3 = 0xFFFFFF80#32 ∧ t.eccAt 0 = none ∧ (t.tile 0).bankCe = 1) ∧
    (let t := go (.loadResponse 5 none) (loading5.setEcc 0 (some (.double false false)))
     t.eccAt 0 = some .poison ∧ (t.core 5).cause = .ecc ∧ (t.tile 0).ue = true ∧ t.flt.inbox.map (·.code) = [4, 5]) := by
  decide +kernel

theorem wit_LoadReturns :
    ((loading5.core 5).load.isSome = true ∧ ((loading5.core 5).load.bind (·.reply)) = none ∧ target 5 1 = .mem 0 ∧
      alignCheck 1 .byte = none ∧ loading5.memServes 0 = true ∧ (loading5.core 5).storeErr = none ∧
      (loading5.core 5).wait = none ∧ loading5.eccAt 0 = none ∧ (loading5.core 5).stores = [] ∧ PortIdle loading5 0) ∧
    (let q : Store := { addr := 0, width := .word, data := 0x55667788#32 }
     let s := loading5.modCore 5 (fun x => { x with stores := [q] })
     (s.core 5).stores = [] ++ [q] ∧ wordKey 5 q.addr = wordKey 5 1 ∧ alignCheck q.addr .word = none ∧
       (go (.loadResponse 5 none) s).reg 5 3 = 0x00000077#32) ∧
    (∀ e ∈ [Ecc.single none, .double true false, .poison], let s := loading5.setEcc 0 (some e)
     s.eccAt 0 = some e ∧ (s.core 5).stores = [] ∧ PortIdle s 0) ∧
    (∀ p ∈ [(0x0FFF8000, Target.rom 0), (0x02000004, .desc 4), (0x08100000, .tileReg 0 0), (0x080B0000, .reg 0x080B0000)],
      let s := withLoad 128 p.1 3 (atQ 0 0 0)
      target 128 (word p.1) = p.2 ∧ (s.core 128).load.isSome = true ∧ (s.core 128).storeErr = none ∧
      (s.core 128).wait = none ∧ (s.core 128).stores = [] ∧ s.storeWaits 128 (word p.1) = false ∧
      let q : Store := { addr := word p.1, width := .word, data := 1 }
      (s.modCore 128 (fun x => { x with stores := [q] })).storeWaits 128 (word p.1) = true) ∧
    (go (.loadResponse 128 none) (withLoad 128 0x02000004 3 ((atQ 0 0 0).setDesc 1 7))).reg 128 3 = 7 := by
  unfold PortIdle; decide +kernel

/-- STH at the middle of word 0, performed; a store of a word to an odd address. -/
def stored5 : State := (at5 0 0 0).modCore 5 (fun x => { x with stores := [{ addr := 2, width := .half, data := 0xAABBCCDD#32 }] })

theorem test_store :
    ((go (.sth 5 none) (at5 (fI 0x0E 1 2 2) 0 9)).core 5).stores = [{ addr := 2, width := .half, data := 9 }] ∧
    (go (.storePerform 5) stored5).wordAt 0 = 0xCCDD0000#32 ∧
    ((go (.stw 5 none) (at5 (fI 0x0D 1 2 1) 0 9)).core 5).cause = .align := by decide +kernel

theorem wit_Stores :
    (let w := fI 0x0D 1 2 1
     Issues 5 none (at5 w 0 9) w (at5 w 0 9) ∧ (opRow w).isSome = true ∧ storeForm (opc w) = some .word ∧
       mapCheck 5 1 = none ∧ alignCheck 1 .word ≠ none) ∧
    (let w := fI 0x0F 1 2 1
     let q : Store := { addr := 0, width := .byte, data := 0 }
     let s := (at5 w 0 9).modCore 5 (fun x => { x with stores := [q, q, q] })
     let s4 := (at5 w 0 9).modCore 5 (fun x => { x with stores := [q, q, q, q] })
     Issues 5 none s w s ∧ alignCheck 1 .byte = none ∧ (s.core 5).stores.length < 4 ∧
       Issues 5 none s4 w s4 ∧ (s4.core 5).stores.length = 4) ∧
    ((stored5.core 5).stores.isEmpty = false ∧ target 5 2 = .mem 0 ∧ alignCheck 2 .half = none ∧
      stored5.memServes 0 = true ∧ stored5.eccAt 0 = none ∧ PortIdle stored5 0) ∧
    ((stored5.modTile 0 (fun x => { x with bankFenced := true })).memServes 0 = false) ∧
    (let s := (at5 0 0 0).modCore 5 (fun x => { x with storeErr := some (.access, 0x40#32) })
     (s.core 5).load = none ∧ (s.core 5).wait = none ∧ (s.core 5).state = .running ∧
       ((go (.storeErrorResponse 5) s).core 5).cause = .access) := by
  unfold Issues PortIdle; decide +kernel

theorem test_atomics :
    (let t := go (.aadd 5 none) ((at5 (fA 0x18 3 1 2 0) 8 0xFFFFFFFF#32).putWord 2 15 5)
     t.wordAt 2 = 4 ∧ t.reg 5 3 = 5) ∧
    (let t := go (.aswp 5 none) ((at5 (fA 0x19 3 1 2 0) 8 9).putWord 2 15 5)
     t.wordAt 2 = 9 ∧ t.reg 5 3 = 5) := by decide +kernel

theorem wit_Atomics :
    (let w := fA 0x18 3 1 2 0
     Issues 5 none (at5 w 8 1) w (at5 w 8 1) ∧ opc w = 0x18 ∧ (at5 w 8 1).released 5 = true ∧
       (at5 w 8 1).accessCheck 5 8 .word .atomic = none ∧ (at5 w 8 1).eccAt 2 = none ∧ PortIdle (at5 w 8 1) 2 ∧
       (at5 w 8 1).accessCheck 5 0x01800000#32 .word .atomic = some .access) ∧
    (let w := fA 0x19 3 1 2 0
     let s := (at5 w 8 1).modCore 5 (fun x => { x with stores := [{ addr := 0, width := .word, data := 0 }] })
     Issues 5 none s w s ∧ s.released 5 = false) := by
  unfold Issues PortIdle; decide +kernel

/-- The first address above the banks and local memories, an odd word, a word of a tap, a byte of a register,
a store to the boot ROM. -/
theorem wit_AccessOrder :
    target 5 0x01200000#32 = .none ∧ target 5 1 ≠ .none ∧ (1 : Nat) % widthBytes .word ≠ 0 ∧
    target 5 0x04000000#32 ≠ .none ∧ (0x04000000 : Nat) % widthBytes .word = 0 ∧
    live.refusal 5 0x04000000#32 .word .load = some .access ∧ live.refusal 5 0x08000000#32 .byte .load = some .access ∧
    live.refusal 128 0x0FFF8000#32 .word .store = some .access := by decide +kernel

/-! ### Taps, events, stops, control registers, pins, engines, interrupts -/

/-- Quince waits to read tap 1 of tile 0, with a timeout. -/
def readerQ (s : State) : State :=
  { s.modCore 128 (fun x => { x with wait := some (.tapRead 0 1 3 (some 4) (some 1)) }) with tapQueue := [128] }

/-- Cobbler 5 waits to read tap 1 of tile 0. -/
def reader5 (rs ticks : Option Nat) (s : State) : State :=
  { s.modCore 5 (fun x => { x with state := .waiting, wait := some (.tapRead 0 1 3 rs ticks) }) with tapQueue := [5] }

theorem test_trd :
    (go (.trd 5 none) (tapFull 0xA5C3 (at5 (fI 0x28 3 1 0) 0x04001000#32 0))).reg 5 3 = 0xA5C3#32 ∧
    ((go (.trd 5 none) (at5 (fI 0x28 3 1 0) 0x04001000#32 0)).core 5).state = .waiting ∧
    (go (.tapWordTake (5, true)) (reader5 none none (tapFull 0xA5C3 (at5 0 0 0)))).reg 5 3 = 0xA5C3#32 ∧
    (go (.trdwTimeout 5) (reader5 (some 4) (some 0) (at5 0 0 0))).reg 5 4 = 3 := by decide +kernel

theorem wit_TapReads :
    (let s := at5 (fI 0x28 3 1 0) 0x04001008#32 0
     Issues 5 none s (fI 0x28 3 1 0) s ∧ opc (fI 0x28 3 1 0) = 0x28 ∧ s.tapOf 5 0x04001008#32 true = none) ∧
    (let s := at5 (fI 0x28 3 1 4) 0x04001000#32 0
     Issues 5 none s (fI 0x28 3 1 4) s ∧ s.tapOf 5 0x04001004#32 true = some (0, 1, true)) ∧
    (let s := tapFull 0xFFFF (at5 (fI 0x28 3 1 0) 0x04001000#32 0)
     Issues 5 none s (fI 0x28 3 1 0) s ∧ s.tapOf 5 0x04001000#32 true = some (0, 1, false) ∧
       s.firstAt 0 1 false = none ∧ s.tapWord 0 1 = some 0xFFFF ∧ s.bpOn 0 1 = false) ∧
    (let s := at5 (fI 0x28 3 1 0) 0x04001000#32 0
     Issues 5 none s (fI 0x28 3 1 0) s ∧ s.tapOf 5 0x04001000#32 true = some (0, 1, false) ∧ s.tapWord 0 1 = none) ∧
    (let w := fA 0x2A 3 1 2 4
     let s := at5 w 0x04001000#32 0
     let s1 := at5 w 0x04001000#32 1
     Issues 5 none s w s ∧ s.tapOf 5 0x04001000#32 false = some (0, 1, false) ∧ s.tapWord 0 1 = none ∧
       (s.reg 5 (rbF w)).toNat = 0 ∧ Issues 5 none s1 w s1 ∧ (s1.reg 5 (rbF w)).toNat ≠ 0) ∧
    (let s := reader5 (some 4) (some 1) (tapFull 0xA5C3 (at5 0 0 0))
     Waits s 5 (.tapRead 0 1 3 (some 4) (some 1)) ∧ (s.tapOf 5 (tapAddr 0 1) false).isSome = true ∧
       s.firstAt 0 1 false = some 5 ∧ s.tapWord 0 1 = some 0xA5C3 ∧ s.bpOn 0 1 = false) ∧
    (let s := readerQ (tapFull 0xA5C3 (atQ 0 0 0))
     Waits s 128 (.tapRead 0 1 3 (some 4) (some 1)) ∧ (s.tapOf 128 (tapAddr 0 1) false).isSome = true ∧
       s.firstAt 0 1 false = some 128 ∧ s.tapWord 0 1 = some 0xA5C3 ∧ s.bpOn 0 1 = false ∧
     let t := go (.tapWordTake (128, true)) s
     Waits t 128 (.tapDone false 0 1 3 (some 4) 0xA5C3#32) ∧ (go (.tapWordTake (128, true)) t).reg 128 3 = 0xA5C3#32) ∧
    (let s := (reader5 none none (at5 0 0 0)).modTile 0 (fun x => { x with fenced := true })
     Waits s 5 (.tapRead 0 1 3 none none) ∧ s.tapOf 5 (tapAddr 0 1) false = none) ∧
    (let s := { tapFull 9 (at5 (fI 0x28 3 1 0) 0x04001000#32 0) with tapQueue := [6] }.modCore 6
        (fun x => { x with wait := some (.tapRead 0 1 3 none none) })
     Issues 5 none s (fI 0x28 3 1 0) s ∧ s.tapOf 5 0x04001000#32 true = some (0, 1, false) ∧
       s.firstAt 0 1 false = some 6) ∧
    (let h := Held.tap false 0 1 0x55#32
     let s := holding h (atQ (fI 0x28 3 1 0) 0x04001000#32 0)
     let s2 := holding h (atQ (fA 0x2A 3 1 2 4) 0x04001000#32 0)
     Issues 128 none s (fI 0x28 3 1 0) s ∧ s.heldNow = some h ∧ target 128 0x04001000#32 = .tap 0 1 0 ∧
       Issues 128 none s2 (fA 0x2A 3 1 2 4) s2 ∧ s2.heldNow = some h ∧ (go (.trd 128 none) s).reg 128 3 = 0x55#32) ∧
    (let s := reader5 (some 4) (some 0) (at5 0 0 0)
     Waits s 5 (.tapRead 0 1 3 (some 4) (some 0))) := by
  unfold Issues Waits; refine ⟨?_, ?_, ?_, ?_, ?_, ?_, ?_, ?_, ?_, ?_, ?_⟩ <;> decide +kernel

/-- The output register of tap 1 of tile 0 holds a word whose lanes have done with it or not, and core `c` waits to
write, if any. -/
def writing (busyLane : Bool) (c : Option Nat) : State :=
  let s := live.modTile 0 (fun x => { x with tapTx := [(1, 7)] })
  let s1 := if busyLane then s.setNode (inNode 0 1 0) { out := .tok true, ack := false, full := true } else s
  match c with
  | some k => { s1.modCore k (fun x => { x with
      state := .waiting, wait := some (.tapWrite 0 1 0xA5C3) }) with tapQueue := [k] }
  | none => s1

theorem test_twr :
    (let t := go (.twr 5 none) (at5 (fI 0x29 1 2 0) 0x04001000#32 0x0001)
     t.tapBusy 0 1 = true ∧ (t.node (inNode 0 1 0)).out = .tok true ∧ (t.node (inNode 0 1 1)).out = .tok false) := by
  decide +kernel

theorem wit_TapWrites :
    (let w := fI 0x29 1 2 0
     let s := at5 w 0x04001000#32 9
     Issues 5 none s w s ∧ opc w = 0x29 ∧ s.released 5 = true ∧ s.tapOf 5 0x04001000#32 false = some (0, 1, false) ∧
       s.tapBusy 0 1 = false ∧ s.firstAt 0 1 true = none) ∧
    (let w := fI 0x29 1 2 4
     let s := at5 w 0x04001000#32 9
     Issues 5 none s w s ∧ s.released 5 = true ∧ s.tapOf 5 0x04001004#32 false = none) ∧
    (let w := fI 0x29 1 2 0
     let s := (at5 w 0x04001000#32 9).modTile 0 (fun x => { x with tapTx := [(1, 7)] })
     Issues 5 none s w s ∧ s.released 5 = true ∧ s.tapOf 5 0x04001000#32 false = some (0, 1, false) ∧
       s.tapBusy 0 1 = true ∧ s.firstAt 0 1 true = none) ∧
    (let h := Held.tap true 0 1 0
     let s := holding h (atQ (fI 0x29 1 2 0) 0x04001000#32 9)
     Issues 128 none s (fI 0x29 1 2 0) s ∧ s.released 128 = true ∧ s.heldNow = some h ∧
       target 128 0x04001000#32 = .tap 0 1 0) ∧
    ((writing true none).tapBusy 0 1 = true ∧ (writing true none).tapFree 0 1 = false) ∧
    ((writing false none).tapFree 0 1 = true ∧ (writing false none).firstAt 0 1 true = none) ∧
    (let s := writing false (some 5)
     s.tapBusy 0 1 = true ∧ s.tapFree 0 1 = true ∧ s.firstAt 0 1 true = some 5 ∧ Waits s 5 (.tapWrite 0 1 0xA5C3) ∧
       (s.tapOf 5 (tapAddr 0 1) false).isSome = true ∧ (go (.tapRegisterFree 0 (1, true)) s).tapBusy 0 1 = true) ∧
    (let s := writing false (some 128)
     s.tapBusy 0 1 = true ∧ s.tapFree 0 1 = true ∧ s.firstAt 0 1 true = some 128 ∧ Waits s 128 (.tapWrite 0 1 0xA5C3) ∧
       (s.tapOf 128 (tapAddr 0 1) false).isSome = true ∧ (go (.tapRegisterFree 0 (1, true)) s).tapBusy 0 1 = true) ∧
    (let w := fI 0x29 1 2 0
     let s := (at5 w 0x04001000#32 9).modCore 5 (fun x => { x with stores := [{ addr := 0, width := .word, data := 0 }] })
     Issues 5 none s w s ∧ s.released 5 = false) := by
  unfold Issues Waits; refine ⟨?_, ?_, ?_, ?_, ?_, ?_, ?_, ?_, ?_⟩ <;> decide +kernel

/-- Cobbler 5 waits for event 15, which is set with event 0. -/
def evw5 : State :=
  ((at5 0 0 0).modCore 5 (fun x => { x with state := .waiting, wait := some (.evw 0x8000 3 false) })).modTile 5
    (fun x => { x with evt := 0x8001 })

theorem test_events :
    (let t := go (.evw 5 none) ((at5 (fA 0x30 3 1 0 0) 0x8002 0).modTile 5 (fun x => { x with evt := 0x8001 }))
     t.reg 5 3 = 0x8000#32 ∧ (t.tile 5).evt = 1) ∧
    ((go (.evset 5 none) (at5 (fA 0x31 0 1 2 0) 127 0x8001#32)).tile 127).evt = 0x8001 ∧
    ((go (.evset 5 none) (at5 (fA 0x31 0 1 2 0) 128 1)).core 5).cause = .access ∧
    ((go (.tileEvtSet 7 15) live).tile 7).evt = 0x8000 ∧
    ((go (.evwWake 5) evw5).core 5).state = .running ∧ (go (.evwWake 5) evw5).reg 5 3 = 0x8000#32 := by decide +kernel

theorem wit_Events :
    (let w := fA 0x30 3 1 0 0
     Issues 5 none (at5 w 0 0) w (at5 w 0 0) ∧ opc w = 0x30 ∧
       (at5 w 0x10000#32 0).reg 5 (raF w) = 0x10000#32 ∧ Issues 5 none (at5 w 1 0) w (at5 w 1 0) ∧
       ((at5 w 1 0).tile 5).evt &&& 1 = 0) ∧
    (let w := fA 0x31 0 1 2 0
     let s := at5 w 127 1
     let off := s.modCore 127 (fun x => { x with state := .off })
     Issues 5 none s w s ∧ opc w = 0x31 ∧ s.released 5 = true ∧ (s.core 127).state = .held ∧
       Issues 5 none off w off ∧ (off.core 127).state = .off ∧
       Issues 5 none (at5 w 128 1) w (at5 w 128 1) ∧ 128 ≤ ((at5 w 128 1).reg 5 (raF w)).toNat) ∧
    (Waits evw5 5 (.evw 0x8000 3 false) ∧ (evw5.tile 5).evt &&& 0x8000 ≠ 0) ∧
    (let w := fA 0x30 3 0 0 0
     let vw (s : State) : State := { s with pwr := { s.pwr with vwarn := true } }
     Issues 128 none (atQ w 0 0) w (atQ w 0 0) ∧ (atQ w 0 0).ready = none ∧ Issues 128 none (vw (atQ w 0 0)) w (vw (atQ w 0 0)) ∧
       (vw (atQ w 0 0)).ready ≠ none ∧
     let s := (atQ w 0 0).modCore 128 (fun x => { x with wait := some (.evwQuince 3) })
     Waits s 128 (.evwQuince 3) ∧ s.ready = none ∧ Waits (vw s) 128 (.evwQuince 3) ∧ (vw s).ready ≠ none) := by
  unfold Issues Waits; decide +kernel

/-- Quince in a handler of bank 1. -/
def handler (w : Word) : State :=
  let s := atQ w 0 0
  { s with quince := { s.quince with ctxs := [.bank1 0], lvl := 5, ipc1 := 0x0F000041#32 } }

theorem test_stops :
    (let t := go (.sys 5 none) (at5 (fJ 0x32 0x3FFFFFF) 0 0)
     (t.core 5).state = .sys ∧ (t.core 5).epc = 0x01800004#32 ∧ (t.core 5).eaddr = 0x03FFFFFF#32) ∧
    ((go (.halt 5 none) (at5 (fJ 0x3E 1) 0 0)).core 5).state = .halted ∧
    ((go (.trap 5 none) (at5 (fJ 0x3F 1) 0 0)).core 5).state = .faulted ∧
    ((go (.iret 128 none) (handler (fJ 0x3C 0))).core 128).pc = 0x0F000040#32 ∧
    (go (.iret 128 none) (handler (fJ 0x3C 0))).quince.lvl = 0 := by decide +kernel

theorem wit_StopsAndReturn :
    (∀ n ∈ [0x32, 0x3E, 0x3F], let w := fJ n 1
     Issues 5 none (at5 w 0 0) w (at5 w 0 0) ∧ opc w = n ∧ (at5 w 0 0).released 5 = true) ∧
    (let w := fJ 0x3F 1
     let s := (at5 w 0 0).modCore 5 (fun x => { x with stores := [{ addr := 0, width := .word, data := 0 }] })
     Issues 5 none s w s ∧ s.released 5 = false) ∧
    (let w := fJ 0x3C 0
     Issues 128 none (atQ w 0 0) w (atQ w 0 0) ∧ opc w = 0x3C ∧ (atQ w 0 0).quince.ctxs = [] ∧
       Issues 128 none (handler w) w (handler w) ∧ (handler w).quince.ctxs = [.bank1 0] ∧
       ((handler w).core 128).stepping = false ∧ ((handler w).core 128).haltPend = false) := by
  unfold Issues; decide +kernel

theorem test_csr :
    (go (.csrr 5 none) (at5 (fI 0x38 3 0 0) 0 0)).reg 5 3 = 5 ∧
    (go (.csrr 128 none) (atQ (fI 0x38 3 0 0x101) 0 0)).reg 128 3 = 0x0F001000#32 ∧
    ((go (.csrw 5 none) (at5 (fI 0x39 0 1 8) 0xABCD0123#32 0)).core 5).scratch0 = 0xABCD0123#32 ∧
    (go (.csrw 128 none) (atQ (fI 0x39 0 1 0x100) 0xFFFFFFFF#32 0)).quince.pie = true ∧
    ((go (.csrw 5 none) (at5 (fI 0x39 0 1 0x100) 1 0)).core 5).cause = .illegal ∧
    ((go (.fence 5 none) { at5 (fI 0x33 0 0 0) 0 0 with memEpoch := 3 }).core 5).fetchEpoch = 3 := by decide +kernel

theorem wit_CsrsAndFence :
    (let w := fI 0x33 0 0 0
     let s := (at5 w 0 0).modCore 5 (fun x => { x with stores := [{ addr := 0, width := .word, data := 0 }] })
     Issues 5 none (at5 w 0 0) w (at5 w 0 0) ∧ opc w = 0x33 ∧ (at5 w 0 0).released 5 = true ∧
       Issues 5 none s w s ∧ s.released 5 = false) ∧
    (∀ n ∈ [0, 1, 2, 3, 4, 8, 9, 5, 7, 10, 0xFF, 0x100, 0x107], let w := fI 0x38 3 0 n
     Issues 5 none (at5 w 0 0) w (at5 w 0 0) ∧ opc w = 0x38 ∧ fld w 0 18 = n) ∧
    (∀ n ∈ [0x100, 0x101, 0x102, 0x103, 0x104, 0x105, 0x106, 0x107], let w := fI 0x38 3 0 n
     Issues 128 none (atQ w 0 0) w (atQ w 0 0) ∧ fld w 0 18 = n) ∧
    (∀ n ∈ [0, 7, 8, 9, 10, 0xFF, 0x100, 0x106], let w := fI 0x39 0 1 n
     Issues 5 none (at5 w 0 0) w (at5 w 0 0) ∧ opc w = 0x39 ∧ fld w 0 18 = n) ∧
    (∀ n ∈ [0x100, 0x101, 0x102, 0x103, 0x104, 0x105, 0x106, 0x107], let w := fI 0x39 0 1 n
     Issues 128 none (atQ w 0 0) w (atQ w 0 0) ∧ fld w 0 18 = n) := by
  unfold Issues; decide +kernel

theorem test_pin_instructions :
    (let t := go (.pinw 128 none) (atQ (fI 0x3B 1 2 0) 575 3)
     (t.pin 575).outLatch = true ∧ (t.pin 575).oeLatch = true ∧ (t.pin 574).outLatch = false) ∧
    (go (.pinr 128 none (some true)) ((atQ (fI 0x3A 3 1 0) 575 3).modPin 575 (fun x => { x with oeLatch := true }))).reg
      128 3 = 5 ∧
    (go (.pinw 128 none) (atQ (fI 0x3B 1 2 1) 575 3)).quince.cause = .access := by decide +kernel

theorem wit_PinInstructions :
    (∀ a ∈ [575, 576], let w := fI 0x3A 3 1 0
     Issues 128 none (atQ w (word a) 0) w (atQ w (word a) 0) ∧ opc w = 0x3A ∧
       ((atQ w (word a) 0).reg 128 (raF w)).toNat = a) ∧
    (∀ a ∈ [575, 576], let w := fI 0x3B 1 2 0
     Issues 128 none (atQ w (word a) 0) w (atQ w (word a) 0) ∧ opc w = 0x3B ∧
       ((atQ w (word a) 0).reg 128 (raS w)).toNat = a) := by
  unfold Issues; decide +kernel

/-- Tile 127's engine in state `k`. -/
def eng (k : EngState) : State := live.modCore 127 (fun x => { x with state := k, epc := 0x01800010#32 })

theorem test_engine_control :
    ((go (.start 127) (eng .halted)).core 127).pc = 0x01800000#32 ∧
    ((go (.start 127) (eng .sys)).core 127).state = .sys ∧
    ((go (.resume 127) (eng .sys)).core 127).pc = 0x01800010#32 ∧
    ((go (.step 127) (eng .halted)).core 127).stepping = true ∧
    ((go (.haltRequest 127) (eng .running)).core 127).cause = .haltreq := by decide +kernel

theorem wit_EngineControl :
    (∀ k ∈ [EngState.halted, .faulted, .sys, .running, .off], ((eng k).core 127).state = k) ∧
    (((eng .running).core 127).load = none ∧ ((eng .running).core 127).wait = none ∧
      ((eng .running).core 127).storeErr = none) := by decide +kernel

theorem test_engine_timers :
    (let t := go (.tileTimerExpiry 127) (go (.tileTimerWrite 127 0x10000003#32) live)
     (t.tile 127).timerCount = 3 ∧ (t.tile 127).evt = 0x8000) ∧
    ((go (.tileTimerExpiry 127) (go (.tileTimerWrite 127 3) live)).tile 127).timerCount = 0 ∧
    ((go (.engWdog 127) (eng .running)).core 127).cause = .wdog := by decide +kernel

theorem wit_EngineTimers :
    (let s := go (.tileTimerWrite 127 1) live
     (s.tile 127).timerCount ≠ 0 ∧ (s.core 127).state = .held) ∧
    ((eng .running).flt.ewdog ≠ 0 ∧ ((eng .running).core 127).state = .running ∧
      ((eng .running).core 127).load = none ∧ ((eng .running).core 127).wait = none) := by decide +kernel

/-! ### Interrupts, Lace, port F, banks -/

/-- Source 1 (VAUX warning) pending with level `l` and enabled, and interrupts enabled. -/
def irq (l : BitVec 4) : State :=
  let s := atQ 0 0 0
  { s with
    quince := { s.quince with ie := true }, pwr := { s.pwr with auxwarn := true }
    intc := { s.intc with level := [(1, l)], en := [(1, true)] } }

/-- Source 0 (VCORE warning), which has level 15, with vectors from `1000h · v`. -/
def irq15 (v : BitVec 20) : State :=
  let s := atQ 0 0 0; { s with pwr := { s.pwr with vwarn := true }, intc := { s.intc with vbase := v } }

theorem test_interrupts :
    (let t := go .interruptEntry (irq 14)
     (t.core 128).pc = 0x0FFFF010#32 ∧ t.quince.lvl = 14 ∧ t.quince.ipc1 = 0x0F000000#32 ∧ t.intc.inService = [1]) ∧
    (let t := go .interruptEntry (irq15 1)
     (t.core 128).pc = 0x1000#32 ∧ t.quince.ipc2 = 0x0F000000#32 ∧ t.quince.lvl = 15 ∧ t.bankOf 128 = 2) ∧
    (let t := go .interruptEntry (irq15 0x0FFFF)
     (t.core 128).pc = 0x0F000000#32 ∧ t.pwr.vwarn = false ∧ t.quince.lvl = 0 ∧ t.intc.resample = [0]) ∧
    (go (.intcAck 1) (go .interruptEntry (irq 14))).intc.resample = [1] ∧
    (go (.intcResample 1) (go (.intcAck 1) (go .interruptEntry (irq 14)))).intc.resample = [] := by decide +kernel

theorem wit_Interrupts :
    (∀ n ∈ [1, 14], let s := irq (BitVec.ofNat 4 n)
     s.ready = some 1 ∧ s.intc.levelOf 1 = n ∧ (s.core 128).wait = none ∧ (s.core 128).load = none ∧
       (s.core 128).stepping = false ∧ (s.core 128).haltPend = false) ∧
    (∀ v ∈ [1, 0x0FFFF], let s := irq15 (BitVec.ofNat 20 v)
     s.ready = some 0 ∧ s.intc.levelOf 0 = 15 ∧ (s.core 128).wait = none ∧ (s.core 128).load = none ∧
       (word (s.intc.vbase.toNat * 4096) = 0x0FFFF000#32 ↔ v = 0x0FFFF)) ∧
    (atQ 0 0 0).ready = none ∧ (irq 0).ready = none ∧
    (go .interruptEntry (irq 14)).intc.inService.contains (1 : Byte).toNat = true := by decide +kernel

/-- Queue `q` of kind `k` with 16 entries of 4 bytes at 0x100 in bank 0, stealing allowed. -/
def queue (q k head tail : Nat) (full : Bool) (s : State) : State :=
  ((s.setDesc (4 * q) 0x100#32).setDesc (4 * q + 1)
    (word (k * 2 ^ 28 + 4 * 2 ^ 22 + 2 ^ 21 + 5 * 2 ^ 13 + (if full then 2 ^ 12 else 0)))).setDesc (4 * q + 2)
    (word (head * 2 ^ 16 + tail))

/-- Cobbler 5's request `op` of queue 7, at its home node. -/
def atHome (op : LaceOp) (s : State) : State :=
  let s1 := (s.modCore 5 (fun x => { x with wait := some .queue })).setReq 5 { LaceReq.init 0 with
    op := op, queue := 7, data := 0xABCD, rd := 3, rs := 4 }
  { s1 with lace := { s1.lace with arrived := [5] } }

/-- Word 3 of queue 7: the watermark `m`, and event bit 9. -/
def marked (m : Nat) (s : State) : State := s.setDesc 31 (word (m * 2 ^ 16 + 9))

/-- Cobbler 6 waits at queue 7 for an entry, or to append 0x66. -/
def waiting6 (push : Bool) (s : State) : State :=
  let s1 := (s.modCore 6 (fun x => { x with wait := some .queue })).setReq 6 { LaceReq.init 0 with
    op := if push then .push else .pop, queue := 7, data := 0x66, rd := 3, rs := 4, phase := .waiting, back := [] }
  { s1 with lace := { s1.lace with waiters := [{ caller := 6, queue := 7, isPush := push, ticks := none }] } }

/-- The queue 7 with three entries, at 15, 0 and 1. -/
def some7 (k : Nat) : State := (((queue 7 k 15 2 false live).putWord (0x4F) 15 111).putWord 0x40 15 222).putWord 0x41 15 333

theorem test_node :
    (let t := go (.nodePush (.core 5)) (atHome .push (some7 0))
     t.wordAt 0x42 = 0xABCD#32 ∧ t.qTail 7 = 3 ∧ (t.req 5).phase = .answer 0 0 0) ∧
    ((go (.nodePop (.core 5)) (atHome .pop (some7 0))).req 5).phase = .answer 0 111 0 ∧
    ((go (.nodePop (.core 5)) (atHome .try (some7 1))).req 5).phase = .answer 0 333 0 ∧
    ((go (.nodeSteal (.core 5)) (atHome .steal (some7 1))).req 5).phase = .answer 0 111 0 ∧
    ((go (.nodeStat (.core 5)) (atHome .stat (some7 0))).req 5).phase = .answer 0 3 0 ∧
    ((go (.nodePush (.core 5)) (atHome .push (queue 7 0 2 2 true live))).req 5).phase = .answer 2 0 0 ∧
    ((go (.nodeSteal (.core 5)) (atHome .steal (some7 0))).req 5).phase = .answer 4 0 0 := by decide +kernel

/-- R173, R175, R177: an EVENT queue counts; the watermark sets its event; a push goes to the oldest waiter, and the
oldest waiting push follows a removal. -/
theorem test_node_kinds :
    (go (.nodePush (.core 5)) (atHome .push (queue 7 3 0 2 false live))).qCount 7 = 3 ∧
    ((go (.nodePush (.core 5)) (atHome .push (marked 4 (some7 0)))).tile 5).evt = 0x200 ∧
    ((go (.nodePush (.core 5)) (waiting6 false (atHome .push (queue 7 0 2 2 false live)))).req 6).phase =
      .answer 0 0xABCD 0 ∧
    (let t := go (.nodePop (.core 5)) (waiting6 true (atHome .pop (queue 7 0 2 2 true live)))
     t.qCount 7 = 16 ∧ t.wordAt 0x42 = 0x66#32 ∧ (t.req 6).phase = .answer 0 0 0) := by decide +kernel

theorem test_queue_instructions :
    (let t := go (.qpush 5 none) (at5 (fA 0x20 0 1 2 4) 0x3001#32 0xBEEF#32)
     (t.req 5).queue = 0x3001 ∧ (t.req 5).route = [0, 1] ∧ (t.req 5).data = 0xBEEF) ∧
    ((go (.qpop 5 none) (at5 (fA 0x21 3 1 0 4) 7 0)).core 5).state = .waiting ∧
    ((go (.qtry 5 none) (at5 (fA 0x22 3 1 0 4) 0x4000#32 0)).req 5).phase = .answer 6 0 0 ∧
    ((go (.qwait 5 none) (at5 (fA 0x25 3 1 2 4) 7 9)).req 5).ticks = 9 ∧
    ((go (.qsteal 5 none) (at5 (fA 0x23 3 1 0 4) 7 0)).req 5).op = .steal ∧
    ((go (.qtake 5 none) (at5 (fA 0x24 3 1 0 4) 7 0)).req 5).op = .take ∧
    ((go (.qstat 5 none) (at5 (fA 0x26 3 1 0 4) 7 0)).req 5).op = .stat := by decide +kernel

theorem wit_QueueRequests :
    (∀ p ∈ [(0x20, 2), (0x21, 0), (0x22, 0), (0x23, 0), (0x24, 0), (0x25, 2), (0x26, 0)],
      let w := fA p.1 (if p.1 = 0x20 then 0 else 3) 1 p.2 4
      ∀ q ∈ [0x3FFF, 0x4000], Issues 5 none (at5 w (word q) 1) w (at5 w (word q) 1) ∧ (opRow w).isSome = true ∧
        (queueOp (opc w)).isSome = true ∧ (at5 w (word q) 1).released 5 = true ∧
        (at5 w (word q) 1).lace.linkFail = 0) ∧
    (let w := fA 0x20 0 1 2 4
     let s : State := { at5 w 0x3001 1 with lace := { live.lace with linkFail := 0b0110 } }
     Issues 5 none s w s ∧ s.released 5 = true ∧ ∀ l ∈ nodeLinks (0x3001 / 4096), s.lace.linkFail.getLsbD l = true) ∧
    (let w := fA 0x22 3 1 0 4
     let s := holding (.queue 1 0) (atQ w 7 1)
     Issues 128 none s w s ∧ s.heldNow = some (.queue 1 0) ∧ s.released 128 = true) ∧
    (let w := fA 0x26 3 1 0 4
     Issues 128 none (atQ w 7 1) w (atQ w 7 1) ∧ (atQ w 7 1).heldNow = none ∧
     let s := (at5 w 7 0).modCore 5 (fun x => { x with stores := [{ addr := 0, width := .word, data := 0 }] })
     Issues 5 none s w s ∧ s.released 5 = false) := by
  unfold Issues; decide +kernel

theorem wit_NodeStatusOrder :
    (let s := atHome .push live
     s.atNode 5 = true ∧ (s.req 5).op = .push ∧ s.qInvalid 7 = true) ∧
    (let s := atHome .steal (some7 2)
     s.atNode 5 = true ∧ s.qInvalid 7 = false ∧ s.qKind 7 ≠ 1) ∧
    (let s := atHome .push ((some7 1).modDesc 29 (fun w => w &&& ~~~0x1FE000#32))
     s.qInvalid 7 = false ∧ s.admits 7 5 true = false) ∧
    (let s := atHome .pop (some7 0)
     let s1 := s.modReq 5 (fun r => { r with wide := true })
     s1.atNode 5 = true ∧ s1.qInvalid 7 = false ∧ s1.admits 7 5 false = true ∧ s1.widthOk 7 (s1.req 5) = false) ∧
    (let s := (atHome .stat (some7 0)).modTile 0 (fun x => { x with bankFenced := true })
     s.atNode 5 = true ∧ s.qInvalid 7 = false ∧ s.widthOk 7 (s.req 5) = true ∧ s.ringOk 7 = false) ∧
    (let s : State := { atHome .pop (some7 0) with lace := { (atHome .pop (some7 0)).lace with arrived := [6, 5] } }.setReq 6
        { LaceReq.init 0 with queue := 7 }
     s.firstOn (s.req (callerKey (.core 5))).queue = some 6) ∧
    (∀ k, k < 4 → (queue 7 k 0 0 false live).qKind 7 = k ∧ (queue 7 k 0 0 false live).qOwner 7 = 5) := by decide +kernel

/-- What the premises of NodeOperations ask of the state, with and without waiters. -/
def slotsReady (s : State) : Bool :=
  s.atNode 5 && (s.nodeCheck 5 (s.req 5)).isNone && (!s.qFull 7 || s.qTail 7 == s.qHead 7) &&
    (s.qKind 7 == 3 || (List.range (s.qCap 7)).all (fun i =>
      let wa := s.slotAddr 7 i / 4
      s.eccAt wa == none && decide (wa < 0x400000 → (s.tile (wa / 0x8000)).portP = [] ∧ (s.tile (wa / 0x8000)).fReqs = []) &&
        (!s.qWide 7 || s.eccAt (wa + 1) == none)))
def opsReady (s : State) : Bool := slotsReady s && s.lace.waiters.isEmpty

/-- `slotsReady` says of every slot what SlotClean says. -/
theorem slotsReady_clean (s : State) (h : slotsReady s = true) (k : s.qKind 7 ≠ 3) (i : Nat) (hi : i < s.qCap 7) :
    SlotClean s 7 i := by
  simp only [slotsReady, Bool.and_eq_true, Bool.or_eq_true, beq_iff_eq, List.all_eq_true, List.mem_range] at h
  obtain ⟨-, h⟩ := h
  obtain h | h := h
  · exact absurd h k
  · have := h i hi
    simp only [decide_eq_true_eq, Bool.not_eq_true'] at this
    refine ⟨this.1.1, this.1.2, fun w => ?_⟩
    rcases this.2 with e | e
    · rw [e] at w; exact absurd w (by decide)
    · exact e

theorem wit_NodeOperations :
    (∀ k ∈ [0, 1], ∀ op ∈ [LaceOp.push, .pop, .try, .wait, .stat],
      opsReady (atHome op (some7 k)) = true ∧ (some7 k).qCount 7 = 3 ∧ (some7 k).qCap 7 = 16) ∧
    (∀ op ∈ [LaceOp.steal, .take], opsReady (atHome op (some7 1)) = true) ∧
    (let s := queue 7 1 2 2 true live
     (∀ op ∈ [LaceOp.push, .pop, .try, .wait, .take, .steal, .stat], opsReady (atHome op s) = true) ∧ s.qCount 7 = 16 ∧
       ((atHome .push s).req 5).eyelet = false) ∧
    (let s := queue 7 1 2 1 false live
     opsReady (atHome .push s) = true ∧ s.qCount 7 = 15) ∧
    (let s := queue 7 1 2 2 false live
     (∀ op ∈ [LaceOp.push, .pop, .try, .take, .steal, .stat, .wait], opsReady (atHome op s) = true) ∧ s.qCount 7 = 0) ∧
    (∀ op ∈ [LaceOp.push, .pop], opsReady (atHome op (queue 7 3 0 2 false live)) = true) ∧
    (let s := (atHome .push (marked 4 (some7 0)))
     opsReady s = true ∧ s.qMark 7 = s.qCount 7 + 1 ∧ s.qOwner 7 = 5 ∧ (s.core 5).state ≠ .off) ∧
    (let s := (((some7 0).modDesc 29 (fun w => w ||| 0x08000000#32))).setDesc 28 0x80#32
     let s1 := (atHome .pop s).modReq 5 (fun r => { r with wide := true })
     s1.qWide 7 = true ∧ opsReady s1 = true) ∧
    (∀ k ∈ [0, 3], let s := waiting6 false (atHome .push (queue 7 k 2 2 false live))
     slotsReady s = true ∧ s.oldestWaiter 7 false = some { caller := 6, queue := 7, isPush := false, ticks := none }) ∧
    (let s := waiting6 true (atHome .pop (queue 7 0 2 2 true live))
     slotsReady s = true ∧ 0 < s.qCount 7 ∧ s.qKind 7 ≠ 1 ∧
       s.oldestWaiter 7 true = some { caller := 6, queue := 7, isPush := true, ticks := none }) := by
  decide +kernel

/-- Cobbler 5's request has been answered with `v`. -/
def answered (op : LaceOp) (code : Nat) (v : DWord) (victim : Option Nat) : State :=
  (atHome op (at5 0 0 0)).modReq 5 (fun r => { r with phase := .answer code v 0, victim := victim })

theorem test_queue_response :
    (let t := go (.queueResponse 5) (answered .try 0 0x55 none)
     t.reg 5 3 = 0x55 ∧ t.reg 5 4 = 0 ∧ (t.core 5).pc = 0x01800004#32) ∧
    (let t := go (.queueResponse 5) (answered .try 1 0x55 none)
     t.reg 5 3 = 0 ∧ t.reg 5 4 = 1) ∧
    (go (.queueResponse 5) (answered .steal 0 0x55 (some 7))).reg 5 4 = 0x80#32 := by decide +kernel

/-- Cobbler 5 waits for an entry of queue 7, and its timeout has run out. -/
def waiter5 : State :=
  let s := (atHome .wait (some7 0)).modReq 5 (fun r => { r with phase := .waiting })
  { s with lace := { s.lace with waiters := [{ caller := 5, queue := 7, isPush := false, ticks := some 0 }] } }

theorem wit_QueueAnswers :
    (∀ p ∈ [(LaceOp.push, 2), (.try, 0), (.take, 0), (.pop, 15), (.stat, 0)],
      let s := answered p.1 p.2 0xFFFFFFFFFFFFFFFF none
      Waits s 5 .queue ∧ (s.req 5).route = [] ∧ (s.req 5).phase = .answer p.2 0xFFFFFFFFFFFFFFFF 0 ∧
        (s.req 5).victim = none ∧ (s.req 5).rd + 1 < 16 ∧ (s.req 5).rs < 16) ∧
    (let s := answered .steal 0 9 (some 7)
     Waits s 5 .queue ∧ (s.req 5).phase = .answer 0 9 0 ∧ (s.req 5).victim = some 7 ∧ (s.req 5).op = .steal ∧
       (s.req 5).wide = false) ∧
    ((waiter5.req 5).phase = .waiting ∧ waiter5.lace.waiters.map (·.caller) = [callerKey (.core 5)]) ∧
    ((go (.waiterTimeout (.core 5) true) waiter5).req 5).phase = .answer 3 0 0 := by
  unfold Waits; decide +kernel

/-- A packet of Cobbler 5 with links 0 and 1 before it, on which `n` retries have failed. -/
def packet (bad : Bool) (n : Nat) : State :=
  live.setReq 5 { LaceReq.init 0 with queue := 0x3000, route := [0, 1], failedCrc := bad, retries := n }

theorem test_ring :
    ((go (.ringPacket (.core 5) true) (packet false 0)).req 5).route = [1] ∧
    ((go (.ringPacket (.core 5) false) (packet false 0)).req 5).failedCrc = true ∧
    (go (.packetRetry (.core 5) true) (packet true 2)).lace.retryCnt = 1 ∧
    (let t := go (.packetRetry (.core 5) false) (packet true 3)
     t.lace.linkFail = 1 ∧ (t.req 5).route = [3, 2]) := by decide +kernel

theorem wit_RingPackets :
    (let s : State := { packet false 0 with lace := { (packet false 0).lace with linkFail := 1 } }
     let s1 : State := { s with lace := { s.lace with reroute := false } }
     (s.req 5).phase = .request ∧ (s.req 5).route = path 0 ((s.req 5).queue / 4096) ∧ s.lace.linkFail.getLsbD 0 = true ∧
       s.lace.reroute = true ∧ (∀ i ∈ longWay 0 3, s.lace.linkFail.getLsbD i = false) ∧ s1.lace.reroute = false) ∧
    (let s := (packet false 0).modReq 5 (fun r => { r with phase := .answer 0 1 0 })
     (s.req 5).phase = .answer 0 1 0 ∧ (s.req 5).route = [0, 1]) ∧
    (∀ b ∈ [false, true], let s := (packet b 0).modReq 5 (fun r => { r with route := [0] })
     (s.req 5).route = 0 :: [] ∧ (s.req 5).failedCrc = b) ∧
    ∀ p ∈ [(false, 0), (true, 0), (true, 2), (true, 3)], let s := packet p.1 p.2
      (s.req 5).route = [0, 1] ∧ s.lace.linkFail.getLsbD 0 = false ∧ s.laceForced 0 = false ∧
      (s.req 5).failedCrc = p.1 ∧ (s.req 5).phase = .request ∧ s.retryLimit = 4 ∧ (s.req 5).retries = p.2 := by
  decide +kernel

/-- Tile 0 runs, and eyelet 0 holds the binding word `b`; a token with value 1 waits on its first lane. -/
def port (b : Word) (v : Nat) : State :=
  let s := live.modTile 0 (fun x => { x with fabric := .live })
  let s1 := s.setFrame (frameAddr 0 4 0) (BitVec.ofNat 2048 (b.toNat * 2 ^ 64))
  outTok 0 16 v ((List.range 32).foldl (fun s r => outTok 0 (eyLane 0 r).1 0 s (eyLane 0 r).2) s1) 0

theorem test_eyelets :
    (let t := go (.eyeletPush 0 0) (port 0x00013001#32 1)
     (t.req 256).op = .push ∧ (t.req 256).data = 1 ∧ (t.req 256).route = [0, 1]) ∧
    ((go (.eyeletPop 0 0) (port 0x00017001#32 0)).req 256).op = .wait ∧
    ((go (.eyeletTry 0 0) (port 0x00017001#32 1)).req 256).op = .try := by decide +kernel

/-- The port of eyelet 0 has been answered with `v`. -/
def portAnswered (b : Word) (v : DWord) : State :=
  let s := live.modTile 0 (fun x => { x with fabric := .live })
  (s.setFrame (frameAddr 0 4 0) (BitVec.ofNat 2048 (b.toNat * 2 ^ 64))).setReq 256 { LaceReq.init 0 with
    eyelet := true, op := .wait, phase := .answer 0 v 0 }

theorem test_eyelet_answer :
    (let t := go (.eyeletAnswer 0 0) (portAnswered 0x00014007#32 0x80000001)
     (t.node (inNode 0 16 0)).out = .tok true ∧ (t.node (inNode 0 16 1)).out = .tok false ∧
       (t.node (inNode 0 18 1)).out = .tok true ∧ (t.node (inNode 0 18 2)).out = .tok false) := by decide +kernel

theorem wit_EyeletPorts :
    (let s := port 0x00013001#32 1
     s.portReady 0 0 = true ∧ s.lace.linkFail = 0 ∧ (s.eyelet 0 0).getLsbD 14 = false) ∧
    (∀ v ∈ [0, 1], let s := port 0x00017001#32 v
     s.portReady 0 0 = true ∧ (s.eyelet 0 0).getLsbD 14 = true ∧ (s.portData 0 0).toNat = v) ∧
    live.portReady 0 0 = false ∧
    (let s := portAnswered 0x00014007#32 9
     (s.req 256).phase = .answer 0 9 0 ∧ (s.req 256).eyelet = true ∧ (s.req 256).route = [] ∧ s.moves 0 = true ∧
       ∀ r, r < eyAnswer (s.eyelet 0 0) → s.inwardFree 0 (eyLane 0 r).1 (eyLane 0 r).2 = true) := by decide +kernel

theorem test_lace_upkeep :
    (let t := go (.descriptorStore 5 0x02000078#32 .word 0x00010002#32) ((queue 7 0 2 2 true live))
     t.qFull 7 = false ∧ t.qHead 7 = 1 ∧ t.qTail 7 = 2) ∧
    (let t := go (.descriptorStore 6 0x02000070#32 .word 1) (queue 7 0 2 2 true live)
     t.lace.descRej = true ∧ t.lace.errCaller = 6) ∧
    (go .laceRetryCntClr { live with lace := { live.lace with retryCnt := 9 } }).lace.retryCnt = 0 ∧
    (go (.laceNopsCntClr 3) { live with lace := { live.lace with nops := [(3, 9)] } }).lace.nops = [] ∧
    (go (.laceMaxClr 0) waiter5).lace.nwaitMax = [(0, 1)] ∧
    (go (.laceTickWrite 0x000300C8#32) live).lace.nextDiv = some 0xC8 := by decide +kernel

/-- R8: a clear and a count of one HK cycle leave the old value and one, whichever comes first. -/
theorem test_count_and_clear :
    let s : State := { atHome .stat (some7 0) with lace := { (atHome .stat (some7 0)).lace with nops := [(0, 9)] } }
    (go (.laceNopsCntClr 0) (go (.nodeStat (.core 5)) s)).lace.nops = [(0, 10)] ∧
    (go (.nodeStat (.core 5)) (go (.laceNopsCntClr 0) s)).lace.nops = [(0, 10)] := by decide +kernel

/-- Engine 5 is being adopted by engine 6. -/
def adopting : State :=
  { queue 7 0 2 2 true live with lace := { (queue 7 0 2 2 true live).lace with
    adoptions := [{ engine := 5, adopter := some 6 }] } }

theorem test_adoption :
    (let t := go .adoptionComplete adopting
     t.qOwner 7 = 6 ∧ t.qFull 7 = true ∧ t.qOwner 640 = 6 ∧ t.qOwner 641 = 6 ∧ (t.tile 6).evt = 0x1000) := by decide +kernel

theorem wit_LaceUpkeep :
    (some7 0).qOwner 7 = 5 ∧ live.qOwner 16383 = 127 ∧ (118 : Nat) % widthBytes .half = 0 ∧ 118 / 4 % 4 ≠ 2 ∧
    (adopting.core 6).state ≠ .off ∧ (adopting.core 6).state ≠ .fenced ∧
    live.lace.meeting live.time 8 = false ∧ live.lace.meeting live.time 3 = false ∧
    ({ live.lace with meets := [(3, { hwAt := some 0, clr := none })] }.meeting live.time 3 = true) ∧
    ((go (.descriptorStore 5 0x02000076#32 .half 0xBEEF#32) (some7 0)).qWord 7 1).extractLsb' 16 16 = 0xBEEF#16 ∧
    (adopting.lace.adoptions = { engine := 5, adopter := some 6 } :: [] ∧ adopting.qOwner 7 = 5 ∧ adopting.qOwner 0 ≠ 5) := by
  decide +kernel

/-! ### Port F, banks, the fabric, pacers, clocks, seams -/

/-- Tile 0 runs with port F on, and the outward lanes carry the 54 bits of `v`. -/
def portF (v : Nat) : State :=
  (List.range 54).foldl (fun s r => outTok 0 (12 + r / 16) (v / 2 ^ (16 * (r / 16))) s (r % 16))
    (live.modTile 0 (fun x => { x with fEn := true, fabric := .live }))

/-- WRITE of 0xCAFE_F00D to word 9 with byte enables 0101. -/
def writeReq : Nat := 0xCAFEF00D + 9 * 2 ^ 32 + 1 * 2 ^ 47 + 5 * 2 ^ 50

/-- The latched request `q`, and 0x1122_3344 in word 9. -/
def latched (q : FReq) : State := (live.modTile 0 (fun x => { x with fEn := true, fReqs := [q] })).putWord 9 15 0x11223344#32

def fq (op : Nat) (ben : BitVec 4) : FReq := { op := op, waddr := 9, ben := ben, wdata := 0xCAFEF00D#32 }

/-- A response with both flags set. -/
def responding : State :=
  live.modTile 0 (fun x => { x with
    fEn := true, fabric := .live, fResps := [{ rdata := 1, err := true, superseded := false }] })

theorem test_port_f :
    ((go (.portFRequest 0) (portF writeReq)).tile 0).fReqs =
      [{ op := 1, waddr := 9, ben := 5, wdata := 0xCAFEF00D#32 }] ∧
    (go (.bankWindow 0 1 [] []) (latched (fq 1 5))).wordAt 9 = 0x11FE330D#32 ∧
    (go (.bankWindow 0 1 [] []) (latched (fq 2 0))).wordAt 9 = 0xDC212351#32 ∧
    (go (.bankWindow 0 1 [.store 5] []) ((latched (fq 1 15)).modCore 5 (fun x => { x with
      stores := [{ addr := 0x24, width := .byte, data := 0xFF }] }))).wordAt 9 = 0xCAFEF0FF#32 ∧
    (let t := go (.portFResponse 0) responding
     (t.node (inNode 0 12 0)).out = .tok true ∧ (t.node (inNode 0 14 0)).out = .tok true ∧
       (t.node (inNode 0 14 1)).out = .tok false) := by decide +kernel

theorem wit_PortF :
    (let s := portF writeReq
     (s.tile 0).fEn = true ∧ s.moves 0 = true ∧ (s.tile 0).fOffered = false ∧ s.fOut 0 < 4 ∧
       ∀ r, r < 54 → (s.outward 0 (fLane r).1 (fLane r).2).isSome = true) ∧
    (∀ op, op < 8 → (((latched (fq op 5)).tile 0).fReqs = fq op 5 :: [] ∧ (fq op 5).waddr < 0x8000 ∧
      (fq op 5).waddr % 8 = (1 : Fin 8).val ∧ (latched (fq op 5)).bankServes 0 = true ∧
      (latched (fq op 5)).eccAt 9 = none)) ∧
    (((latched (fq 1 0)).tile 0).fReqs = [fq 1 0]) ∧
    (let s := (latched (fq 1 15)).modCore 5 (fun x => { x with stores := [{ addr := 0x24, width := .byte, data := 0xFF }] })
     (s.core 5).stores = { addr := 0x24, width := .byte, data := 0xFF } :: [] ∧ target 5 0x24 = .mem 9 ∧
       alignCheck 0x24 .byte = none ∧ s.bankServes 0 = true ∧ s.eccAt 9 = none ∧ (s.tile 0).portP = [] ∧
       (s.tile 0).portRest.getLsbD 1 = false) ∧
    (let s := withLoad 5 0x24 3 (latched (fq 1 15))
     (s.core 5).load = some (aLoad 0x24 3) ∧ (aLoad 0x24 3).reply = none ∧ target 5 0x24 = .mem 9 ∧
       alignCheck 0x24 .word = none ∧ (s.core 5).stores = []) ∧
    (∀ op ∈ [0, 1, 2, 3], let w := fA 0x18 3 1 2 0
     let s := (at5 w 0x24 1).modTile 0 (fun x => { x with fEn := true, fReqs := [fq op 15] })
     Issues 5 none s w s ∧ opc w = 0x18 ∧ s.released 5 = true ∧
       s.accessCheck 5 (s.reg 5 (raF w)) .word .atomic = none ∧ (s.reg 5 (raF w)).toNat / 4 = 9 ∧
       target 5 (s.core 5).pc ≠ .mem 9 ∧ (s.tile 0).portP = [] ∧ s.eccAt 9 = none) ∧
    (let s := (latched (fq 1 15)).modCore 5 (fun x => { x with stores := [{ addr := 0x44, width := .word, data := 7 }] })
     target 5 0x44 = .mem 17 ∧ 17 % 8 = (1 : Fin 8).val ∧ s.eccAt 17 = none ∧
       ((go (.bankWindow 0 1 [.store 5] []) s).tile 0).fReqs = [fq 1 15] ∧
       (go (.bankWindow 0 1 [.store 5] []) s).wordAt 17 = 7) ∧
    (((responding.tile 0).fResps).length = 1 ∧ (responding.tile 0).fOffered = false ∧ responding.moves 0 = true ∧
      ∀ l, l < 34 → responding.inwardFree 0 (fLane l).1 (fLane l).2 = true) := by
  unfold Issues; decide +kernel

/-- The patrol of bank 0 stands at word `n`. -/
def patrol (n : Nat) : State := live.modTile 0 (fun x => { x with patrol := { active := true, next := n, per := 0 } })

theorem test_bank_upkeep :
    (let t := go (.patrolRead 0 none) ((patrol 9).setEcc 9 (some (.single none)))
     t.eccAt 9 = none ∧ (t.tile 0).bankCe = 1) ∧
    (let t := go (.patrolRead 0 none) ((patrol 0x7FFF).setEcc 0x7FFF (some (.double false false)))
     t.eccAt 0x7FFF = some .poison ∧ (t.tile 0).patrol.active = false ∧ t.flt.inbox.length = 1) ∧
    ((go (.patrolPassStart 0) live).tile 0).patrol.active = true ∧
    ((go (.eccCntClr 0) (live.modTile 0 (fun x => { x with bankCe := 3, localCe := 4 }))).tile 0).localCe = 0 ∧
    ((go (.bankCntClr 0) (live.modTile 0 (fun x => { x with collCnt := 3 }))).tile 0).collCnt = 0 ∧
    ((go (.bankUe1sExpiry 0) (live.modTile 0 (fun x => { x with bankUe1s := 3 }))).tile 0).bankUe1s = 2 ∧
    ((go (.memoryClearComplete 0) (live.modTile 0 (fun x => { x with clearing := true }))).tile 0).clearing = false := by
  decide +kernel

theorem wit_BankUpkeep :
    (live.patrols 0 = true ∧ (live.tile 0).patrol.active = false) ∧
    (∀ n ∈ [0, 0x7FFF], (patrol n).patrols 0 = true ∧ ((patrol n).tile 0).patrol.active = true ∧
      ((patrol n).tile 0).bankFenced = false ∧ ((patrol n).tile 0).patrol.next = n ∧ (patrol n).eccAt n = none ∧
      ((patrol n).setEcc n (some (.single none))).eccAt n = some (.single none) ∧
      ((patrol n).setEcc n (some (.double false true))).eccAt n = some (.double false true) ∧ PortIdle (patrol n) n) ∧
    (((patrol 9).modTile 0 (fun x => { x with bankFenced := true })).tile 0).bankFenced = true := by
  unfold PortIdle; decide +kernel

/-- Cluster 33 of tile 0 holds the cell word `w` in cell 0; the tile runs. -/
def cell0 (w : Nat) : State :=
  (live.modTile 0 (fun x => { x with fabric := .live })).setFrame (frameAddr 0 0 33) (BitVec.ofNat 2048 w)

/-- LUT 0xFFFE: the OR of its inputs; a is the constant 1, d the constant 0, b and c are unused. -/
def orCell (mode : Nat) : Nat := 0xFFFE + mode * 2 ^ 16 + 57 * 2 ^ 24 + 63 * 2 ^ 30 + 63 * 2 ^ 36 + 56 * 2 ^ 42

theorem test_fabric :
    ((go (.laneHandshake (.cell 0 33 0)) (cell0 (orCell 0))).node (cellNode 0 33 0)).out = .tok true ∧
    (go (.laneHandshake (.cell 0 33 0)) (cell0 (orCell 1))).node (cellNode 0 33 0) =
      { out := .tok true, ack := true, full := true } ∧
    ((go .tokRateWindow { live.modTile 7 (fun x => { x with tokCount := 511 }) with time := 100 }).tile 7).tokRate = 1 := by decide +kernel

/-- Cluster 33 of tile 0, whose tokens are enabled, with the cell words `l`. -/
def fab (l : List (Nat × Nat)) : State :=
  cell0 (l.foldl (fun a p => a + p.2 * 2 ^ (128 * p.1)) 0)
def atOut (k : Nat) (v : Bool) (s : State) : State := s.setNode k { out := .tok v, ack := false, full := true }

/-- An adder cell whose a and b are the constant 1. -/
def chainCell : Nat := 0x6666 + 2 ^ 19 + 57 * 2 ^ 24 + 57 * 2 ^ 30 + 56 * 2 ^ 36

/-- A memory group in order mode `o` with one read cell, whose inputs are constants, and a write of 1s to address 15. -/
def group (o : Nat) : State :=
  let read := 4 * 2 ^ 16 + 2 ^ 112 + 2 ^ 24 * (56 + 56 * 2 ^ 6 + 56 * 2 ^ 12 + 56 * 2 ^ 18)
  let port := 4 * 2 ^ 16 + o * 2 ^ 115 + 2 ^ 24 * (57 + 57 * 2 ^ 6 + 57 * 2 ^ 12 + 57 * 2 ^ 18)
  fab [(0, read), (8, port), (9, port), (10, port), (11, port)]

theorem test_memory_group :
    ((go (.laneHandshake (.cell 0 33 0)) (group 0)).node (cellNode 0 33 0)).out = .tok false ∧
    (cwLut ((go (.laneHandshake (.memWrite 0 33)) (group 0)).cellWord 0 33 0)).testBit 15 = true ∧
    ((go (.laneHandshake (.memWrite 0 33)) (group 1)).node (writeNode 0 33)).ack = false := by decide +kernel

/-- Taps 0 and 1 of spine 0 drive it; cell 0 of clusters 0 and 1 hold `a` and `b`, and the node holds `r`. -/
def spine (a b : Option Bool) (r : Rail) : State :=
  let s := (live.modTile 0 (fun x => { x with fabric := .live })).setFrame (frameAddr 0 1 0) 0x88
  let put := fun (c : Nat) (v : Option Bool) (s : State) => match v with
    | some x => atOut (cellNode 0 c 0) x s
    | none => s
  (put 0 a (put 1 b s)).setNode (spineNode 0 0) { out := r, ack := false, full := r != .spacer }

/-- Pacer 63 has issued two tokens to cluster 0 of tile 96, where cell 0 reads them if `reads`. -/
def laned (reads : Bool) : State :=
  let s := (live.modTile 96 (fun x => { x with fabric := .live })).modPacer 63 (fun p => { p with
    en := true, issued := 2, offered := true, lead := 1 })
  let s1 := if reads then s.setFrame (frameAddr 96 0 0) (BitVec.ofNat 2048 (58 * 2 ^ 24)) else s
  atOut (paceNode 63) true s1

theorem test_lanes :
    ((go (.laneHandshake (.lane 0 33 0)) (atOut (cellNode 0 33 0) true (fab [(0, 2 ^ 48)]))).node (laneNode 0 33 0)).out =
      .tok true ∧
    (let s := fab [(0, chainCell), (1, chainCell)]
     ((go (.laneHandshake (.carry 0 33 0)) s).node (carryNode 0 33 0)).out = .tok true ∧
       ((go (.laneHandshake (.cell 0 33 0)) s).node (cellNode 0 33 0)).out = .tok false) ∧
    ((go (.laneHandshake (.spine 0 0 none)) (spine (some true) none .spacer)).node (spineNode 0 0)).out = .tok true ∧
    (go (.laneHandshake (.spine 0 0 none)) (spine (some true) (some false) .spacer)).flt.inbox.length = 1 ∧
    (let t := go (.laneHandshake (.pace 63)) (laned false)
     (t.pacer 63).issued = 1 ∧ (t.pacer 63).unseen = 1) := by decide +kernel

/-- Tile 1 is in region 1, which is HELD, and discards what comes on the east-going lane 2 of its cluster 0, where
tile 0 sends a token. -/
def sealed1 : State :=
  ((live.setRegion 1 { state := .held, mask := 2, loads := 0 }).setFrame (frameAddr 1 4 1)
    (BitVec.ofNat 2048 (4 * 2 ^ 1536))).setNode (laneNode 0 31 2) { out := .tok true, ack := false, full := true }

/-- Fifteen lanes of tap 1 of tile 0 hold a token, and cell 15 of cluster 4, which drives the last, is ready. -/
def lastLane (v : Nat) : State :=
  let s := (tapFull v (live.modTile 0 (fun x => { x with fabric := .live, tapEv := 2 }))).setFrame (frameAddr 0 0 4)
    (BitVec.ofNat 2048 ((orCell 0 + 2 ^ 99) * 2 ^ 1920))
  (s.setNode (cellNode 0 4 15) { out := .spacer, ack := false, full := false }).modCore 0
    (fun x => { x with state := .running })

theorem test_tap_event : ((go (.laneHandshake (.cell 0 4 15)) (lastLane 0)).tile 0).evt = 0x4000 := by decide +kernel

/-- The consumer of outward lane 0 of tap 1 of tile 0 has acknowledged; the token is still there, or not. -/
def outDone (v : Bool) : State :=
  (if v then outTok 0 1 0 (cell0 0) 0 else cell0 0).setNode (outNode 0 1 0) { out := .spacer, ack := true, full := false }

theorem wit_FabricHandshakes_wires :
    (let s := fab [(0, chainCell), (1, chainCell)]
     s.moves 0 = true ∧ cwCarry (s.cellWord 0 33 0) = true ∧ cwMode (s.cellWord 0 33 0) = 0 ∧
       complete (s.cellInputs 0 33 0 (s.node (cellNode 0 33 0)).ack) = true ∧ (s.node (cellNode 0 33 0)).out = .spacer ∧
       s.carryActive 0 33 0 = true ∧ complete (s.cellInputs 0 33 0 (s.node (carryNode 0 33 0)).ack) = true ∧
       (s.node (carryNode 0 33 0)).out = .spacer ∧ s.carryReaders 0 33 0 ≠ [] ∧ s.carryActive 0 33 1 = false) ∧
    (∀ o, o < 3 → (group o).memOrder 0 33 = o ∧ (group o).live 0 = true ∧
      cwMode ((group o).cellWord 0 33 0) = 4 ∧ cwRole ((group o).cellWord 0 33 0) = 1 ∧
      (group o).node (cellNode 0 33 0) = emptyNode ∧ complete ((group o).cellInputs 0 33 0 false) = true ∧
      cwMode ((group o).cellWord 0 33 8) = 4 ∧ ((group o).node (writeNode 0 33)).ack = false ∧
      (group o).node (cellNode 0 33 9) = emptyNode ∧ complete ((group o).writeInputs 0 33 false) = true ∧
      (group o).readMask 0 33 = 1 ∧ (group o).turn 33 = { reads := 0, wrote := false } ∧
      (((group o).setTurn 33 { reads := 1, wrote := true }).turn 33).reads = 1) ∧
    (let s := atOut (cellNode 0 33 0) true (fab [(0, 2 ^ 48)])
     s.moves 0 = true ∧ s.laneSrc 0 33 0 = .cell 0 ∧ (s.node (cellNode 0 33 0)).out = .tok true ∧
       (s.node (laneNode 0 33 0)).out = .spacer) ∧
    (let s := atOut (laneNode 0 1 0) true (fab [(0, 2 ^ 64 + 2 ^ 96)])
     s.laneSrc 0 33 0 = .lane 0 ∧ s.laneRail 0 33 0 = .tok true ∧ (s.node (laneNode 0 33 0)).out = .spacer) ∧
    (let s := atOut (cellNode 0 33 0) true (fab [(0, 2 ^ 54 + 2 ^ 98)])
     s.pipOn 0 33 24 = true ∧ s.muxRail 0 33 24 = .tok true ∧ s.node (pipNode 0 33 24) = emptyNode ∧
       s.pipOn 0 33 25 = false) ∧
    (let s := atOut (laneNode 0 33 8) true (fab [(0, 2 ^ 58)])
     s.pipOn 0 33 8 = true ∧ laneFar 0 33 8 = some (0, 161) ∧ s.node (pipNode 0 161 8) = emptyNode) ∧
    ((∀ p ∈ [(some true, none, Rail.spacer), (some true, some false, .spacer), (some true, some false, .illegal),
        (some true, none, .tok false)],
      (spine p.1 p.2.1 p.2.2).moves 0 = true ∧ (spine p.1 p.2.1 p.2.2).spineTaps 0 0 none = [0, 1] ∧
      ((spine p.1 p.2.1 p.2.2).node (spineNode 0 0)).out = p.2.2 ∧ tapRail (spine p.1 p.2.1 p.2.2) 0 0 0 = .tok true ∧
      tapRail (spine p.1 p.2.1 p.2.2) 0 0 1 = (match p.2.1 with | some v => .tok v | none => .spacer))) ∧
    (∀ r ∈ [false, true], (laned r).moves ((laned r).paceTile 63) = true ∧ (laned r).takesPace ((laned r).paceTile 63) = true ∧
      ((laned r).node (paceNode 63)) = { out := .tok true, ack := false, full := true } ∧
      (laned r).paceReaders 63 = (if r then [cellNode 96 0 0] else []) ∧
      ((laned r).node (cellNode 96 0 0)).ack = false) ∧
    live.moves (live.paceTile 63) = false ∧
    (((outDone false).node (outNode 0 1 0)).ack = true ∧ (outDone false).outwardRail 0 1 0 = .spacer ∧
      ((outDone true).node (outNode 0 1 0)).ack = true ∧ (outDone true).outwardRail 0 1 0 ≠ .spacer) := by
  unfold tapRail emptyNode; refine ⟨?_, ?_, ?_, ?_, ?_, ?_, ?_, ?_, ?_, ?_⟩ <;> decide +kernel

/-- Welt of the east-going lane 2 between tiles 0 and 1, sealed in mode `m`, or open. -/
def welted (m : Option Nat) : State :=
  let s := (live.modTile 0 (fun x => { x with fabric := .live })).modTile 1 (fun x => { x with fabric := .live })
  let s1 := match m with
    | some k => ((s.setRegion 1 { state := .held, mask := 2, loads := 0 }).setFrame (frameAddr 1 4 1)
        (BitVec.ofNat 2048 (k * 2 ^ 1536)))
    | none => s
  atOut (laneNode 0 31 2) true s1

theorem wit_FabricHandshakes_welts :
    (laneNear 1 0 2 = some (0, 31) ∧ (welted none).sealed 1 0 = false ∧ (welted none).node (weltNode 1 0 2) = emptyNode ∧
      ((welted none).node (laneNode 0 31 2)).out = .tok true) ∧
    (∀ m, m < 4 → (welted (some m)).sealed 1 0 = true ∧ (welted (some m)).sealMode 1 0 2 = m ∧
      (welted (some m)).moves 1 = true ∧ (welted (some m)).node (weltNode 1 0 2) = emptyNode) ∧
    ((go (.laneHandshake (.welt 1 0 2)) (welted (some 3))).node (weltNode 1 0 2)).out = .tok true ∧
    ((go (.laneHandshake (.welt 1 0 2)) (welted (some 1))).node (weltNode 1 0 2)).out = .spacer ∧
    (let s : State := { live with time := 300 }
     s.time % 100 = 0 ∧ s.wires.tokEnd ≠ s.time ∧ (go .tokRateWindow s).wires.tokEnd = 300 ∧ live.wires.tokEnd = live.time) := by
  unfold emptyNode; decide +kernel

theorem wit_FabricHandshakes :
    (let s := cell0 (orCell 0)
     s.moves 0 = true ∧ complete (s.cellInputs 0 33 0 (s.node (cellNode 0 33 0)).ack) = true ∧
       cwMode (s.cellWord 0 33 0) = 0 ∧ cwCarry (s.cellWord 0 33 0) = false ∧ (s.node (cellNode 0 33 0)).out = .spacer ∧
       unusedCell (s.cellWord 0 33 0) = false) ∧
    (∀ m ∈ [1, 2, 3], let s := cell0 (orCell m)
     complete (s.cellInputs 0 33 0 (s.node (cellNode 0 33 0)).ack) = true ∧ cwMode (s.cellWord 0 33 0) = m ∧
       s.live 0 = true ∧ s.node (cellNode 0 33 0) = { out := .spacer, ack := false, full := false }) ∧
    (let s := (cell0 ((orCell 1 - 2 ^ 24 * 56 + 2 ^ 42 * 7) * 2 ^ 128)).setNode (cellNode 0 33 1)
        { out := .tok true, ack := true, full := true }
     s.moves 0 = true ∧ complete (s.cellInputs 0 33 1 true) = true ∧ cwMode (s.cellWord 0 33 1) = 1 ∧
       s.acked (s.cellReaders 0 33 1) = true) ∧
    (laneNear 1 0 2 = some (0, 31) ∧ sealed1.sealed 1 0 = true ∧ sealed1.sealMode 1 0 2 = 4 ∧
      sealed1.node (weltNode 1 0 2) = { out := .spacer, ack := false, full := false } ∧
      (sealed1.node (laneNode 0 31 2)).out = .tok true) ∧
    ((go (.laneHandshake (.welt 1 0 2)) sealed1).tile 1).drained = 1 ∧
    (let s := lastLane 0
     s.moves 0 = true ∧ complete (s.cellInputs 0 4 15 (s.node (cellNode 0 4 15)).ack) = true ∧
       (s.tile 0).tapEv.getLsbD 1 = true ∧ s.tapWord 0 1 = none ∧
       (go (.laneHandshake (.cell 0 4 15)) s).tapWord 0 1 = some 1 ∧ (s.core 0).state = .running) := by decide +kernel

/-- Pacer 63 runs on EC7 with increment `inc` and accumulator `acc`. -/
def pacing (acc : Nat) (inc : Word) (x : Pacer → Pacer) : State :=
  { live with clk := { live.clk with rootLock := true }, cfg := { live.cfg with pacersStarted := true } }.setPacer 63
    (x { Pacer.init 63 with en := true, ec := 7, inc := inc, acc := acc, depth := 2 })

/-- R78, R82: two edges of 0.75 make one tick; a full pacer books a deficit; a debt is repaid; R91: acc_clr takes
an edge; R87: a written increment acts from its time on; R93: a written depth waits for a tick. -/
theorem test_pacers :
    (let t := go (.paceTick (7, 63, 2)) (pacing 0 0xC0000000#32 id)
     (t.pacer 63).acc = 0x80000000 ∧ (t.pacer 63).issued = 1 ∧ (t.pacer 63).offered = true) ∧
    (let t := go (.paceTick (7, 63, 1)) (pacing 0xFFFFFFFF 1 (fun p => { p with offered := true, lead := 2, bank := true }))
     (t.pacer 63).deficits = 1 ∧ (t.pacer 63).debt = 1 ∧ (t.pacer 63).acc = 0) ∧
    ((go (.debtRepay (7, 63)) (pacing 0 1 (fun p => { p with debt := 2 }))).pacer 63).debt = 1 ∧
    ((go (.takeVisible 63) (pacing 0 1 (fun p => { p with unseen := 1, lead := 1, offered := true }))).pacer 63).count = 1 ∧
    ((go (.paceTick (7, 63, 1)) (pacing 5 1 (fun p => { p with en := false, accClr := true }))).pacer 63).acc = 0 ∧
    ((go (.paceTick (7, 63, 1)) (pacing 5 1 (fun p => { p with nextInc := [(9, 1)] }))).pacer 63).inc = 1 ∧
    ((go (.paceTick (7, 63, 1)) (pacing 5 1 (fun p => { p with nextInc := [(9, 0)] }))).pacer 63).acc = 14 ∧
    ((go (.paceTick (7, 63, 1)) (pacing 5 1 (fun p => { p with nextDepth := some 4 }))).pacer 63).depth = 2 := by
  decide +kernel

theorem wit_PacerEdges :
    (let s := pacing 0xFFFFFFFF 1 id
     let p := s.pacer 63
     s.ecRuns 7 = true ∧ p.ec = 7 ∧ p.nextEc = [] ∧ p.nextInc = [] ∧ p.late = [] ∧ p.accClr = false ∧
       s.pacerRuns p = true ∧ s.paceJitter 63 = false ∧ p.debt = 0 ∧ p.free = true ∧ 2 ^ 32 ≤ p.acc + p.inc.toNat) ∧
    (let s := pacing 0xFFFFFFFF 1 (fun p => { p with offered := true, lead := 2, debt := 0xFFFF, bank := true })
     s.pacerRuns (s.pacer 63) = true ∧ (s.pacer 63).free = false ∧ (s.pacer 63).debt ≤ 0xFFFF) ∧
    (let s := pacing 0xFFFFFFFF 1 id
     let s1 := { s with pert := { s.pert with en := 0x40, pace := 0x33F } }
     s1.paceJitter 63 = true ∧ fld s1.pert.pace 8 4 = 3) ∧
    (let s := pacing 0 1 (fun p => { p with debt := 1 })
     s.pacerRuns (s.pacer 63) = true ∧ (s.pacer 63).free = true ∧ 0 < (s.pacer 63).debt ∧
       (s.pacer 63).acc + (s.pacer 63).inc.toNat < 2 ^ 32) ∧
    ((pacing 0 1 (fun p => { p with accClr := true })).pacer 63).accClr = true ∧
    (let s := pacing 0 1 (fun p => { p with en := false })
     s.pacerRuns (s.pacer 63) = false) ∧
    live.ecRuns 0 = false ∧
    (∀ d ∈ [0, 1], let s := pacing 0 1 (fun p => { p with nextInc := [(9, d)] })
     (s.pacer 63).nextInc = [(9, d)] ∧ (s.pacer 63).acc + 9 < 2 ^ 32 ∧ s.time = 0) ∧
    (0 < ((pacing 0 1 (fun p => { p with unseen := 1 })).pacer 63).unseen) := by decide +kernel

theorem test_pacer_writes :
    ((go (.paceIncWrite 63 5) live).pacer 63).nextInc = [(5, 2)] ∧
    ((go (.paceCtrlWrite 62 0x01) (pacing 0 1 id)).pacer 62).cfgRej = true ∧
    (let t := go (.paceCtrlWrite 62 0x01002131#32) (pacing 0 1 id)
     (t.pacer 62).en = true ∧ (t.pacer 62).bank = true ∧ (t.pacer 62).joinPend = some (1, 1) ∧
       (t.pacer 62).govExcl = true) ∧
    ((go (.joinChange 63) (pacing 0 1 (fun p => { p with joinPend := some (3, 4) }))).pacer 63).joinTile = 3 ∧
    ((go (.leadMaxClr 63) (pacing 0 1 (fun p => { p with lead := 1, leadMax := 7 }))).pacer 63).leadMax = 1 ∧
    ((go (.accClr 63) live).pacer 63).accClr = true ∧
    ((go (.paceCntClr 63) (pacing 0 1 (fun p => { p with count := 7 }))).pacer 63).count = 0 ∧
    ((go (.debtClr 63) (pacing 0 1 (fun p => { p with debt := 7 }))).pacer 63).debt = 0 ∧
    ((go (.paceCntlRead 5 63) (pacing 0 1 (fun p => { p with count := 2 ^ 33 }))).core 5).paceLatch = [(63, some 2)] := by
  decide +kernel

theorem wit_PacerWrites :
    (let s := pacing 0 1 id
     (1 : Word).getLsbD 0 = true ∧ (s.pacer 63).en = true ∧ (s.pacer 63).joinTile = (1 : Word).extractLsb' 8 5 ∧
       (s.pacer 63).joinCluster = (1 : Word).extractLsb' 13 10 ∧ ((62 : PacerId).val / 16 = 63 / 16)) ∧
    (∀ n, n < 64 → n ≠ 63 → ((pacing 0 1 id).pacer n).en = false) ∧
    ((pacing 0 1 id).pacer 63).joinTile ≠ (0x101 : Word).extractLsb' 8 5 ∧
    (let p := (pacing 0 1 (fun p => { p with joinPend := some (3, 4) })).pacer 63
     p.joinPend = some (3, 4) ∧ p.offered = false ∧ p.lead = 0) ∧
    ((pacing 0 1 (fun p => { p with offered := true })).pacer 63).offered = true ∧
    (let s := withLoad 5 (0x0803800C + 0x20 * 63) 3 (pacing 0 1 id)
     (s.core 5).load = some (aLoad (0x0803800C + 0x20 * 63) 3) ∧
       target 5 (word (0x0803800C + 0x20 * 63)) = .reg (0x0803800C + 0x20 * 63) ∧
       s.storeWaits 5 (word (0x0803800C + 0x20 * 63)) = false) := by decide +kernel

/-- Locked, with EC0 on and edge clocks as after reset otherwise. -/
def locked : State := { live with clk := { live.clk with rootLock := true } }.setEc 0 { div := 3, en := true }

theorem test_clocks :
    (go .rootLock live).clk.rootLock = true ∧ ((go (.phaseLock 3 7) locked).phase 3).err = 7 ∧
    (go (.lockLoss false) locked).clk.unlock = true ∧ (go .relock locked).clk.relocking = true ∧
    (go (.pllEnWrite false) locked).clk.pllEn = false ∧
    ((go (.clkEcWrite 1 0x1001#32) locked).ec 1).en = true ∧
    (go (.clkEcWrite 1 0x1000#32) locked).clk.cfgRej = true ∧
    ((go (.clkPhaseWrite 0 0x2A01#32) locked).phase 0).trim = 0x2A := by decide +kernel

theorem wit_Clocks :
    (live.clk.pllEn = true ∧ live.clk.rootLock = false) ∧
    (locked.clk.rootLock = true ∧ (locked.phase 3).en = true) ∧
    (locked.clk.pllEn = true ∧ locked.pllRefused locked.clk.held = false) ∧
    (let s := { locked with clk := { locked.clk with held := { n := 63, post := 0, fracEn := false, frac := 0 } } }
     s.clk.pllEn = true ∧ s.pllRefused s.clk.held = true) ∧
    (let s := { locked with clk := { locked.clk with pllEn := false } }
     s.clk.pllEn = false ∧ s.pllRefused s.clk.held = false) ∧
    (let s := { locked with clk := { locked.clk with pllEn := false, held := { n := 63, post := 0, fracEn := false, frac := 0 } } }
     s.pllRefused s.clk.held = true ∧ (go .relock s).clk.cfgRej = true) ∧
    (locked.clk.now.above ((BitVec.extractLsb' 0 12 (0x1001#32)).toNat + 1) 650 = false ∧
      locked.clk.now.above ((BitVec.extractLsb' 0 12 (0x1000#32)).toNat + 1) 650 = true) := by decide +kernel

/-- Seam 0 of kind `k` runs on EC0: bit 2 of `o` is IN, bit 3 BOUNDED; width 1, at tap 1 of tile 0 and pin 0. -/
def seam (k o : Nat) (f : Seam → Seam) : State :=
  ((locked.modTile 0 (fun x => { x with fabric := .live })).setSeam 0
    (f { Seam.init 0 with state := .run, tap := 1, cfg := word (k + o), edgeBase := 0 }))

def entry (a : Nat) : SeamEntry := { word := 1, age := a }

theorem test_seam_words :
    ((go (.seamWordAccept 0) (outTok 0 1 1 (seam 2 8 id) 0)).seam 0).fifo = [entry 0] ∧
    ((go (.seamWordAccept 0) (outTok 0 1 1 (seam 3 8 id) 0)).seam 0).srcCount = 1 ∧
    (let t := go (.seamOutLoad 0 true false) (seam 2 8 (fun g => { g with fifo := [entry 2] }))
     (t.seam 0).shown = some 1 ∧ (t.seam 0).fifo = [] ∧ (t.seam 0).xfers = 1) ∧
    ((go (.seamOutLoad 0 true false) (seam 2 8 (fun g => { g with fifo := [entry 1] }))).seam 0).underrun = false ∧
    ((go (.seamOutLoad 0 true false) (seam 2 8 id)).seam 0).underrun = true ∧
    ((go (.seamInCapture 0 1 true) (seam 2 12 id)).seam 0).fifo = [entry 0] ∧
    ((go (.seamRoomVisible 0) (seam 2 12 (fun g => { g with freeing := [2] }))).seam 0).freeing = [] ∧
    ((go (.eventSeamTransfer 0) (seam 3 8 (fun g => { g with srcCount := 5 }))).seam 0).fifo = [{ word := 5, age := 0 }] ∧
    ((go (.seamOutLoad 0 true false) (seam 3 8 (fun g => { g with fifo := [{ word := 5, age := 2 }] }))).seam 0).shown = some 5 ∧
    (let t := go (.seamOutLoad 0 true false) (seam 1 0 (fun g => { g with fifo := [entry 0] }))
     (t.seam 0).inFlight = some (1, 2) ∧ (t.seam 0).fifo = [entry 1] ∧
       ((go (.seamOutLoad 0 true false) (go (.seamOutLoad 0 true false) t)).seam 0).shown = some 1) ∧
    ((go (.seamOutLoad 0 true false) (seam 1 0 id)).seam 0).misses = 1 ∧
    ((go (.seamInCapture 0 1 true) (seam 2 4 (fun g => { g with fifo := [entry 0] }))).seam 0).misses = 1 := by decide +kernel

theorem wit_SeamWords :
    (∀ p ∈ [(1, 8), (2, 8), (1, 0), (3, 8)], let s := outTok 0 1 1 (seam p.1 p.2 id) 0
     let g := s.seam 0
     g.state = .run ∧ g.holdPend = false ∧ g.epochF = g.epochE ∧ sgIn g.cfg = false ∧ s.moves (s.seamTile 0) = true ∧
       s.seamWord 0 = some 1 ∧ g.fifo.length + g.freeing.length < sgPlaces g.cfg ∧ g.inFlight = none ∧ g.srcCount < 63 ∧
       sgKind g.cfg = p.1) ∧
    (let s := outTok 0 1 1 (seam 2 8 (fun g => { g with fifo := List.replicate 16 (entry 0) })) 0
     sgPlaces (s.seam 0).cfg ≤ (s.seam 0).fifo.length ∧ s.seamWord 0 = some 1) ∧
    (∀ p ∈ [(1, 8), (2, 8), (2, 0), (1, 0)], let s := seam p.1 p.2 (fun g => { g with fifo := [entry 2] })
     let g := s.seam 0
     s.ecRuns (sgEc g.cfg) = true ∧ g.cad = 0 ∧ sgQual g.cfg = 0 ∧ g.fifo = entry 2 :: [] ∧ g.s3 = false ∧
       s.seamForced 0 = false ∧ g.inFlight = none ∧ sgBounded g.cfg = decide (p.2 = 8) ∧ sgPins g.cfg = 1 ∧
       s.jtag.ir.ownsPads = false) ∧
    (∀ q ∈ [false, true], let s := seam 2 (8 + 2 ^ 20) (fun g => { g with fifo := [entry 1], cad := b2n q })
     (s.seam 0).fifo = [entry 1] ∧ (s.seam 0).cad = b2n q ∧ sgQual (s.seam 0).cfg = 1) ∧
    (let s := seam 1 0 (fun g => { g with inFlight := some (1, 1), cad := 1 })
     (s.seam 0).inFlight = some (1, 1) ∧ (s.seam 0).cad ≠ 0) ∧
    (let s := seam 3 8 (fun g => { g with fifo := [{ word := 63, age := 2 }] })
     sgKind (s.seam 0).cfg = 3 ∧ (s.seam 0).dstCount + 63 ≤ 63 ∧ s.ecRuns (sgEc (s.seam 0).cfg) = true) ∧
    (let s := (seam 2 8 (fun g => { g with fifo := [entry 2] })).modPin 0 (fun x => { x with cfg := 4 })
     let s1 : State := { s with pins := { s.pins with released := true } }
     pcMode (s1.pin 0).cfg = 4 ∧ s1.padFollows 0 = true ∧
       ((go (.seamOutLoad 0 true false) s1).pin 0).drive = some true) ∧
    (∀ n ∈ [15, 16], let s := seam 2 12 (fun g => { g with fifo := List.replicate n (entry 0) })
     let g := s.seam 0
     sgIn g.cfg = true ∧ sgBounded g.cfg = true ∧ g.cad = 0 ∧ g.fifo.length + g.freeing.length = n ∧
       s.ecRuns (sgEc g.cfg) = true) ∧
    (∀ p ∈ [(1, 12), (1, 4)], sgIn ((seam p.1 p.2 id).seam 0).cfg = true ∧
      sgBounded ((seam p.1 p.2 id).seam 0).cfg = decide (p.2 = 12) ∧ sgKind ((seam p.1 p.2 id).seam 0).cfg = 1) ∧
    (∀ n ∈ [1, 2], let s := seam 2 12 (fun g => { g with freeing := [n] })
     (s.seam 0).freeing = n :: [] ∧ sgIn (s.seam 0).cfg = true) ∧
    (let s := seam 3 8 (fun g => { g with srcCount := 63 })
     sgIn (s.seam 0).cfg = false ∧ sgBounded (s.seam 0).cfg = true ∧ (s.seam 0).srcCount ≠ 0 ∧
       (s.seam 0).fifo = [] ∧ (s.seam 0).freeing = []) ∧
    (let s := seam 3 12 (fun g => { g with dstCount := 5 })
     sgIn (s.seam 0).cfg = true ∧ (s.seam 0).offered = false ∧ (s.seam 0).dstCount ≠ 0 ∧ s.seamFree 0 = true) := by
  refine ⟨?_, ?_, ?_, ?_, ?_, ?_, ?_, ?_, ?_, ?_, ?_, ?_⟩ <;> decide +kernel

theorem test_seam_resets :
    (let t := go (.grpRst 0) (seam 2 8 (fun g => { g with group := 1, pend := 0x0000000A#32, fifo := [entry 0], xfers := 4 }))
     (t.seam 0).state = .reset ∧ (t.seam 0).fifo = [] ∧ (t.seam 0).cfg = 0x0A) ∧
    ((go (.groupResetComplete 0) (seam 2 8 (fun g => { g with state := .reset }))).seam 0).state = .run ∧
    (let t := go (.rstE 0) (go (.rstF 0) (seam 2 8 id))
     (t.seam 0).holdPend = true ∧ ((go (.faultHoldEntry 0) t).seam 0).state = .faultHold) ∧
    ((go (.rstF 0) (seam 2 8 id)).seam 0).epochF = true ∧ ((go (.rstE 0) (seam 2 8 id)).seam 0).epochE = true ∧
    ((go (.faultHoldEntry 0) (go (.rstF 0) (seam 2 8 id))).seam 0).state = .faultHold ∧
    ((go (.seamCntClr 0) (seam 2 8 (fun g => { g with misses := 4 }))).seam 0).misses = 0 ∧
    ((go (.seamCfgWrite 0 0x00300002#32) live).seam 0).cfgRej = true ∧
    ((go (.seamCfgWrite 0 0) (seam 2 8 id)).seam 0).pend = 0 := by decide +kernel

theorem wit_SeamResets :
    (let s := seam 2 8 (fun g => { g with state := .reset })
     (s.seam 0).state = .reset ∧ s.ecRuns (sgEc (s.seam 0).cfg) = true ∧ sgQual (s.seam 0).cfg ≠ 2) ∧
    (let s := seam 2 0x18 (fun g => { g with state := .reset })
     (s.seam 0).state = .reset ∧ s.ecRuns (sgEc (s.seam 0).cfg) = false) ∧
    ((live.seam 0).state = .off) ∧
    (let s := go (.rstF 0) (seam 2 8 id)
     (s.seam 0).state = .run ∧ (s.seam 0).holdPend = true) ∧
    (live.cfg.boot ≠ .tests ∧ live.cfg.boot ≠ .sequence) ∧
    (let s := (seam 2 (8 + 2 ^ 21) (fun g => { g with state := .reset })).modPin 0 (fun x => { x with cfg := 4 })
     let s1 : State := { s with pins := { s.pins with released := true } }
     sgQual (s1.seam 0).cfg = 2 ∧ sgQualPin (s1.seam 0).cfg = 0 ∧ pcMode (s1.pin 0).cfg = 4 ∧ s1.padFollows 0 = true) ∧
    (live.seamFault 0 0 (fun k => [(live.seam k).cfg, (live.seam k).pend]) = false ∧ sgKind 0 = 0) ∧
    (let s := live.modPin 0 (fun x => { x with cfg := 4 })
     s.seamFault 0 2 (fun k => [(s.seam k).cfg, (s.seam k).pend]) = false ∧ s.seamPinsOk 0 2 = true) ∧
    (live.seamFault 0 0x00300002#32 (fun k => [(live.seam k).cfg, (live.seam k).pend]) = true) := by decide +kernel


/-! ### Pins, faults, configuration scrubbing, regions, power -/

/-- Outputs are released; pin 0 as `f` makes it. -/
def pin0 (f : Pin → Pin) : State := { live with pins := { live.pins with released := true } }.modPin 0 f

/-- Pin 0 bound to lane 0 of tap 1 of tile 0, in a switch to configuration `w` that stands in cycle `n`. -/
def switching (n : Nat) (w : Word) (next : Option Word) : State :=
  pin0 (fun x => { x with binding := BitVec.ofNat 16 (2 ^ 5 + 2 ^ 15), sw := { cycle := n, cfg := w, next := next, scan := false } })

theorem test_pin_writes :
    ((go (.pinCfgWrite 0 6) (pin0 id)).pinBank 0).cfgRej = true ∧
    ((go (.pinCfgWrite 0 0x08000000#32) (pin0 id)).pin 0).cfg = 0x08000000#32 ∧
    ((go (.pinIrqWrite 0 6) (pin0 id)).pinBank 0).cfgRej = true ∧
    ((go (.functionSwitch 0) (pin0 (fun x => { x with
      sw := { cycle := 3, cfg := 8, next := none, scan := false }, oeLatch := true }))).pin 0).drive = some false ∧
    ((go (.functionSwitch 0) (switching 4 0 (some 9))).pin 0).sw.cycle = 2 ∧
    ((go (.pinLatchWrite false 0 1) ((pin0 id).modPin 0 (fun x => { x with pinwAt := some 0 }))).pin 0).outLatch = false ∧
    (let t := go (.pinLatchWrite true 17 0x80000000#32) (pin0 id)
     (t.pin 575).oeLatch = true ∧ (t.pin 575).drive = some false ∧ (t.pin 574).oeLatch = false) ∧
    (go (.pullselChange true) live).pins.pullsel = true := by decide +kernel

/-- With no seam about and only pin 0 changed, no pin breaks a condition of R231 if pin 0 does not break one by
itself. -/
theorem calm (s : State) (x : Pin) (q : Nat) (hs : s.seams = []) (hp : s.pins.pins = [(0, x)])
    (hc : pinReserved x.cfg x.trig.toNat = false) (h4 : pcMode x.cfg ≠ 4) (hm5 : pcMode x.cfg ≠ 5) (h5 : pcStd x.cfg ≠ 5)
    (hl : (laneMode (pcMode x.cfg) || x.laneEn) = true → pbBound x.binding = true)
    (hx : laneMode (pcMode x.cfg) = true → x.laneEn = false) (h16 : pbLane x.binding + 3 ≤ 16)
    (hf : s.tapIsF (s.pinTile 0) (pbTap x.binding) = false) : s.pinFault q = none := by
  have hcfg : ∀ i, (s.seam i).cfg = 0 := by intro i; simp [State.seam, hs, SMap.read, Seam.init]
  have hseam : ∀ q, s.pinSeam q = none := by
    intro q; unfold State.pinSeam; rw [List.find?_eq_none]; intro i _
    rw [hcfg]; simp [State.seamHasPin, sgKind, fld]
  have htap : ∀ t j, s.tapSeam t j = none := by
    intro t j; unfold State.tapSeam; rw [List.find?_eq_none]; intro i _
    rw [hcfg]; simp [State.seamHasTap, sgKind, fld]
  have hpin : ∀ k, s.pin k = if k = 0 then x else Pin.init k := by
    intro k; by_cases h : k = 0 <;> simp [State.pin, hp, SMap.read, h, eq_comm]
  have e0 : pbBound 0#16 = false ∧ pbLane 0#16 = 0 ∧ pcMode 0#32 = 0 ∧ pcStd 0#32 = 0 ∧
      pinReserved 0#32 0 = false := by decide
  have hodd : s.oddOfPair q = false := by
    unfold State.oddOfPair; rw [hpin (q - 1)]; split <;> simp_all [Pin.init]
  by_cases hq : q = 0
  · subst hq
    have hn : s.pinLanes 0 ≤ 3 := by
      simp only [State.pinLanes, lanesUsed]; split <;> (try split) <;> (try split) <;> (try split) <;> omega
    have hlow : (quadrantPins (pinQuadrant 0)).any (fun q => decide (q < 0) && (List.range 16).any (fun l =>
        decide (pbLane x.binding ≤ l) && decide (l < pbLane x.binding + s.pinLanes 0) &&
          s.pinHasLane q (s.pinTile 0) (pbTap x.binding) l)) = false := by
      rw [List.any_eq_false]; intro q _; simp
    have h0 : s.pin 0 = x := by rw [hpin]; simp
    have a1 : ¬ (16 < pbLane x.binding + s.pinLanes 0) := by omega
    have a2 : ((laneMode (pcMode x.cfg) || x.laneEn) && !pbBound x.binding) = false := by
      cases hh : (laneMode (pcMode x.cfg) || x.laneEn)
      · rfl
      · simp [hl hh]
    have a3 : (laneMode (pcMode x.cfg) && x.laneEn) = false := by
      cases hh : laneMode (pcMode x.cfg)
      · rfl
      · simp [hx hh]
    simp only [State.pinFault, hodd, h0, hc, a2, a3, a1, hlow, htap, hf, hseam]
    simp [h4, hm5]
  · have hi : s.pin q = Pin.init q := by rw [hpin]; simp [hq]
    have hn : s.pinLanes q = 0 := by simp [State.pinLanes, hi, Pin.init, e0]
    simp [State.pinFault, hodd, hi, Pin.init, hn, hseam, laneMode, e0]

/-- `calm`, for a change of pin 0. -/
theorem calm_breaks (s s1 : State) (x : Pin) (h : s1.seams = [] ∧ s1.pins.pins = [(0, x)] ∧
    pinReserved x.cfg x.trig.toNat = false ∧ pcMode x.cfg ≠ 4 ∧ pcMode x.cfg ≠ 5 ∧ pcStd x.cfg ≠ 5 ∧
    ((laneMode (pcMode x.cfg) || x.laneEn) = true → pbBound x.binding = true) ∧
    (laneMode (pcMode x.cfg) = true → x.laneEn = false) ∧ pbLane x.binding + 3 ≤ 16 ∧
    s1.tapIsF (s1.pinTile 0) (pbTap x.binding) = false) : s.pinBreaks s1 0 = false := by
  obtain ⟨a, b, c, d, e, f, g, i, j, k⟩ := h
  have h := fun q => calm s1 x q a b c d e f g i j k
  simp [State.pinBreaks, h]

/-- The pins on which cycle 2 of that switch is checked. -/
def selecting (w : Word) : State :=
  let s := switching 1 w none
  s.setPin 0 { s.pin 0 with sw := { (s.pin 0).sw with cycle := 2 }, mask := 5 }

theorem wit_PinWrites_sound :
    (pin0 id).cfgBreaks 0 8 = false ∧ (switching 1 8 none).cfgBreaks 0 8 = false ∧
    (∀ w ∈ [(8 : Word), 1], (selecting w).pinBreaks ((selecting w).setPin 0 { (selecting w).pin 0 with
      cfg := ((switching 1 w none).pin 0).sw.cfg }) 0 = false) ∧
    (∀ n ∈ [4, 5, 3], (pin0 id).settledPins.pinBreaks ((pin0 id).settledPins.modPin 0 (fun x => { x with
      trig := BitVec.ofNat 3 n, dg := 0, same := 0, laneEn := false, tileEv := false })) 0 = false) := by
  refine ⟨calm_breaks _ _ { (pin0 id).pin 0 with cfg := 8 } (by decide +kernel),
    calm_breaks _ _ { ((switching 1 8 none).pin 0).settled with cfg := 8 } (by decide +kernel), ?_, ?_⟩
  · intro w h
    simp only [List.mem_cons, List.not_mem_nil, or_false] at h
    rcases h with rfl | rfl
    · exact calm_breaks _ _ { (selecting 8).pin 0 with cfg := 8 } (by decide +kernel)
    · exact calm_breaks _ _ { (selecting 1).pin 0 with cfg := 1 } (by decide +kernel)
  · intro n h
    simp only [List.mem_cons, List.not_mem_nil, or_false] at h
    rcases h with rfl | rfl | rfl
    · exact calm_breaks _ _ { (pin0 id).pin 0 with trig := 4 } (by decide +kernel)
    · exact calm_breaks _ _ { (pin0 id).pin 0 with trig := 5 } (by decide +kernel)
    · exact calm_breaks _ _ { (pin0 id).pin 0 with trig := 3 } (by decide +kernel)

theorem wit_PinWrites :
    (let s := pin0 id
     (s.pin 0).sw.cycle = 0 ∧ (8 : Word) &&& 0x47FFFFFF#32 ≠ (s.pin 0).cfg &&& 0x47FFFFFF#32 ∧
       s.cfgBreaks 0 6 = true ∧ (switching 1 8 none).cfgBreaks 0 6 = true) ∧
    ((0x08000000#32 : Word) ≠ ((pin0 id).pin 0).cfg ∧
      (0x08000000#32 : Word) &&& 0x47FFFFFF#32 = ((pin0 id).pin 0).cfg &&& 0x47FFFFFF#32) ∧
    (let s := switching 1 8 none
     (s.pin 0).sw.cycle = 1 ∧ (s.pin 0).sw.next = none ∧ (s.pin 0).sw.scan = false ∧ s.pins.released = true ∧
       (s.pin 0).contained = false ∧ s.tileAway (s.pinTile 0) = false ∧ pbOe (s.pin 0).binding ≠ 1 ∧
       pcMode (s.pin 0).sw.cfg = 0) ∧
    (let s := switching 1 1 none
     (s.pin 0).sw.cycle = 1 ∧ (s.pin 0).sw.next = none ∧ (s.pin 0).sw.scan = false ∧ s.pins.released = true ∧
       (s.pin 0).contained = false ∧ s.tileAway (s.pinTile 0) = false ∧ pbOe (s.pin 0).binding ≠ 1 ∧
       pcMode (s.pin 0).sw.cfg = 1) ∧
    (let s := switching 1 6 none
     ((selecting 6).pinBreaks ((selecting 6).setPin 0 { (selecting 6).pin 0 with cfg := (s.pin 0).sw.cfg }) 0) = true) ∧
    (let s := switching 4 0 (some 9)
     (s.pin 0).sw.cycle = 4 ∧ (s.pin 0).sw.next = some 9) ∧
    (let s := pin0 id
     s.settledPins.pinBreaks (s.settledPins.modPin 0
         (fun x => { x with trig := 6, dg := 0, same := 0, laneEn := false, tileEv := false })) 0 = true ∧
       (s.pin 0).level = false ∧ (s.pin 0).mask = 0 ∧ s.padOff 0 = false ∧ s.oddOfPair 0 = false) ∧
    (let s := (pin0 id).modPin 544 (fun x => { x with pinwAt := some 0 })
     s.padFollows 575 = true ∧ pcMode (s.pin 575).cfg = 0 ∧ (s.pin 575).pinwAt ≠ some s.time ∧
       (s.pin 544).pinwAt = some s.time) := by decide +kernel

/-- Pin 0 bound to lane 0 of tap 1 of tile 0, in mode `m` on EC0; the tile runs. -/
def bound0 (m : Nat) (f : Pin → Pin) : State :=
  let s := pin0 (fun x => f { x with binding := BitVec.ofNat 16 (2 ^ 5 + 2 ^ 15), cfg := word m, psStarted := true })
  { s with clk := { s.clk with rootLock := true, ecs := locked.clk.ecs } }.modTile 0 (fun x => { x with fabric := .live })

def psEntry (a : Nat) : PsEntry := { rise := false, fall := true, en := true, age := a }

/-- R244: a low-level trigger sets pend while the accepted level is low, once nothing masks it. -/
theorem test_level_trigger :
    ((State.tickPin (bound0 0 (fun x => { x with trig := 5, mask := 0, board := some false })) 0).pin 0).pend = true ∧
    ((State.tickPin (bound0 0 (fun x => { x with trig := 5, mask := 1, board := some false })) 0).pin 0).pend = false := by
  decide +kernel

/-- R228: the odd pin of an LVDS pair detects nothing and shows the complement. -/
theorem test_lvds_pair :
    let s := ((bound0 0 (fun x => { x with trig := 1 })).modPin 1 (fun x => { x with trig := 1 })).modPin 0
      (fun x => { x with cfg := 0x28#32, drive := some true })
    s.oddOfPair 1 = true ∧ ((go (.pinDetection 1 true) s).pin 1).pend = false ∧
      ((go (.pinDetection 0 true) s).pin 0).pend = true ∧ s.padDrive 1 = some false := by decide +kernel

theorem test_pin_signals :
    ((go (.pinSeamTransfer 0 none none) (bound0 2 (fun x => { x with psOut := [psEntry 2] }))).pin 0).drive = some false ∧
    (let t := go (.pinSeamTransfer 0 none none) (bound0 3 (fun x => { x with psOut := [psEntry 2] }))
     (t.pin 0).drive = some true) ∧
    ((go (.pinSeamTransfer 0 none none) (bound0 2 id)).pin 0).psUnder = true ∧
    (let t := go (.pinSeamTransfer 0 (some true) none) (bound0 2 id)
     (t.node (inNode 0 1 0)).out = .tok true ∧ (t.pin 0).psUnder = true) ∧
    (let t := go (.pinDetection 0 true) (bound0 0 (fun x => { x with trig := 1, laneEn := true }))
     (t.pin 0).pend = true ∧ (t.pin 0).level = true ∧ (t.node (inNode 0 1 0)).out = .tok true) ∧
    ((go (.pinDetection 0 true) (bound0 0 (fun x => { x with trig := 2 }))).pin 0).pend = false := by decide +kernel

theorem wit_PinSignals :
    (∀ m ∈ [2, 3], let s := bound0 m (fun x => { x with psOut := [psEntry 2] })
     let x := s.pin 0
     pcMode x.cfg = m ∧ x.psFault = false ∧ s.ecRuns (pcEc x.cfg) = true ∧ x.sw.cycle = 0 ∧
       x.psOut = psEntry 2 :: [] ∧ x.psS3 = false ∧ s.padFollows 0 = true ∧ s.padOff 0 = false ∧
       s.jtag.ir.ownsPads = false ∧ s.oddOfPair 0 = false) ∧
    (let s := (bound0 3 (fun x => { x with psOut := [psEntry 2] })).offerInward 0 1 0 true
     s.inwardFree (s.pinTile 0) (pbTap (s.pin 0).binding) (pbLane (s.pin 0).binding) = false) ∧
    (∀ n ∈ [4, 5], let s := bound0 0 (fun x => { x with trig := BitVec.ofNat 3 n, level := n == 4 })
     (s.pin 0).pend = false ∧ (s.pin 0).mask = 0 ∧ s.pins.released = true) ∧
    (let s := bound0 2 id
     (s.pin 0).psOut = [] ∧ (s.pin 0).drive = none ∧ s.pins.released = true ∧ s.oddOfPair 0 = false ∧
       s.padDrive 0 = none ∧ s.moves (s.pinTile 0) = true ∧
       s.inwardFree (s.pinTile 0) (pbTap (s.pin 0).binding) (pbLane (s.pin 0).binding) = true ∧
       (s.offerInward 0 1 0 true).inwardFree 0 1 0 = false) ∧
    (∀ n ∈ [1, 2, 3], let s := bound0 0 (fun x => { x with
       trig := BitVec.ofNat 3 n, level := n == 2, laneEn := true, tileEv := true })
     let x := s.pin 0
     x.trig.toNat < 4 ∧ s.pins.released = true ∧ x.mask = 0 ∧ s.oddOfPair 0 = false ∧ x.pend = false ∧ pbBound x.binding = true ∧
       (s.core 0).state = .held) ∧
    (let s := (bound0 0 (fun x => { x with tileEv := true, trig := 3 })).modPinBank 0 (fun b => { b with evEn := true })
     (s.pinBank 0).evEn = true ∧ (s.core (s.pinBank 0).evTile.toNat).state = .held) := by decide +kernel

/-- With no request about, no answer is on its way to a port. -/
theorem wit_PortsQuiet (s : State) (r : Nat) (h : s.lace.reqs = []) : PortsQuiet s r := by
  intro k e c v n _ _ _ hp
  simp [State.req, h, SMap.read, LaceReq.init] at hp

/-- A fence of tile 127, or of its engine, has been asked for by a fault. -/
def fenceAsked (f : Bool) : State :=
  { live with flt := { live.flt with tileReq := [(127, f)], engReq := [(127, f)] } }

set_option maxRecDepth 20000 in
theorem test_tile_fence :
    ((go (.tileFence 127) (fenceAsked true)).tile 127).fenced = true ∧
    ((go (.tileFence 127) (fenceAsked true)).region 0).state = .fenced ∧
    (go (.tileFence 127) (fenceAsked true)).dev.svcTiles = true := by
  refine ⟨?_, ?_, ?_⟩ <;> decide +kernel

theorem test_engine_fence :
    (let t := go (.engineFence 127) (fenceAsked false)
     (t.core 127).state = .fenced ∧ t.dev.enginesTotal = 0 ∧ (t.tile 127).fenced = false) ∧
    ((go (.efenceRelease 127) (eng .fenced)).core 127).state = .halted := by decide +kernel

theorem wit_Fences :
    (∀ f ∈ [false, true], (fenceAsked f).flt.tileReq = (((127 : TileId).val, f) :: []) ∧
      (fenceAsked f).flt.engReq = (((127 : TileId).val, f) :: []) ∧ ((fenceAsked f).tile 127).fenced = false ∧
      ((fenceAsked f).core 127).state ≠ .fenced ∧ (fenceAsked f).cfg.state ≠ .loadingFull ∧
      (fenceAsked f).lace.reqs = [] ∧
      (fenceAsked f).commanded .load ((fenceAsked f).regionOf 127) = false) ∧
    (((fenceAsked true).modTile 127 (fun x => { x with fenced := true })).tile 127).fenced = true ∧
    (((eng .fenced).core 127).state = .fenced ∧ ((eng .fenced).tile 127).fenced = false) := by decide +kernel

/-- A report of an uncorrectable error in the fabric of tile 5 waits. -/
def reported (c : Nat) : State :=
  { live with flt := { live.flt with inbox := [{ Report.of c with tile := 5, cause := 4, detail := 9 }], head := 63, seq := 0xFF, fresh := 64 } }

theorem test_fault_log :
    (let t := go .faultReport (reported 1)
     t.flt.tileReq = [(5, true)] ∧ t.flt.head = 0 ∧ t.flt.lost = true ∧ t.flt.seq = 0 ∧
       (SMap.read Record.zero t.flt.log 63).w1 = 0xFF020001#32 ∧ (SMap.read Record.zero t.flt.log 63).w2 = 0x01000005#32) ∧
    (go .faultReport (reported 6)).flt.engReq = [(5, true)] ∧
    (go .logheadClr (go .faultReport (reported 1))).flt.log = [] ∧
    ((go (.weltCntClr 5) (live.modTile 5 (fun x => { x with drained := 9 }))).tile 5).drained = 0 := by decide +kernel

/-- Watched lane 63 of tile 0 is output 1 of cell 1 of cluster 33, which holds a token that cell 1 itself reads. -/
def stall0 : State :=
  (((cell0 ((orCell 1 - 2 ^ 24 * 56 + 2 ^ 42 * 7) * 2 ^ 128)).setNode (cellNode 0 33 1)
    { out := .tok true, ack := false, full := true }).setFrame (frameAddr 0 4 2)
    (BitVec.ofNat 2048 ((33 + 2 ^ 10 + 2 ^ 31) * 2 ^ (32 * 63)))).modTile 0 (fun x => { x with stallEn := true, stallFence := true })

theorem wit_FaultLog :
    (∀ c ∈ [1, 5, 6, 0x0D, 0x0F], (reported c).flt.inbox.length = 1 ∧ ∀ r ∈ (reported c).flt.inbox,
      r.code < 256 ∧ (reported c).actionOf r < 256) ∧
    ((stall0.tile 0).stallEn = true ∧ (stall0.tile 0).tripped = false ∧ stall0.live 0 = true ∧
      (stall0.watch 0 63).testBit 31 = true ∧
      stall0.stalled 0 (nfld (stall0.watch 0 63) 0 10) (nfld (stall0.watch 0 63) 10 6) = true) ∧
    ((go (.stallTrip 0 63) stall0).flt.inbox.length = 1) ∧ (live.tile 0).stallEn = false ∧
    ((reported 1).actionOf { Report.of 1 with tile := 5, cause := 4, detail := 9 } = 2 ∧
      (reported 6).actionOf { Report.of 6 with tile := 5, cause := 4, detail := 9 } = 1 ∧
      ((reported 1).tile 5).fenced = false ∧ ((reported 6).core 5).state ≠ .fenced ∧
      (reported 1).flt.tileReq = [] ∧
      ((reported 1).modTile 5 (fun x => { x with fenced := true })).flt.inbox.length = 1 ∧
      (let s := reported 1
       let q := { s with flt := { s.flt with tileReq := [(5, false)] } }
       (go .faultReport q).flt.tileReq.map (·.1) = [5])) := by decide +kernel

/-- The scrubber runs and stands at place `n`. -/
def scrubbing (n : Option Nat) : State := { live with cfg := { live.cfg with scrubEn := true, scrubAt := n } }

theorem test_scrubber :
    (go .scrubPassStart (scrubbing none)).cfg.scrubAt = some 0 ∧
    (go (.scrubFrame [(3, false)]) (scrubbing (some 0))).cfg.scrubCe = 1 ∧
    (let t := go (.scrubFrame [(3, true)]) (scrubbing (some 0))
     t.cfg.scrubUe = 1 ∧ t.dev.cfgUeTotal = 1 ∧ t.flt.inbox.length = 1) ∧
    (go .scrubCntClr { live with cfg := { live.cfg with scrubCe := 4 } }).cfg.scrubCe = 0 := by decide +kernel

theorem wit_Scrubber :
    ((scrubbing none).cfg.scrubEn = true ∧ (scrubbing none).cfg.scrubAt = none) ∧
    ((scrubbing (some 0)).cfg.scrubAt = some 0 ∧ (scrubbing (some 0)).scrubNext 0 = some 0) := by decide +kernel

/-- Region 15 holds tile 127 and is in state `k`; CFG_PREG names it, and CFG_PLEN is 8. -/
def region15 (k : RegionState) : State :=
  let s := live.setRegion 15 { state := k, mask := BitVec.ofNat 128 (2 ^ 127), loads := 0 }
  { s with cfg := { s.cfg with state := .done, preg := 15, plen := 8 } }

/-- A partial image of region 15 streams. -/
def streaming (cleared : Bool) : State :=
  let s := region15 .loading
  { s with cfg := { s.cfg with
    state := .loadingPartial, cmds := [(.load, 15)]
    load := some { ImageLoad.begin .flash true false 0 8 with cleared := cleared } } }

theorem test_region_commands :
    (let t := go .regionLoad (region15 .running)
     (t.region 15).state = .loading ∧ t.cfg.state = .loadingPartial ∧ (t.tile 127).clearing = true ∧
       (t.core 127).state = .off) ∧
    (go .regionLoad (region15 .loading)).cfg.pcmdRej = true ∧
    ((go .regionClear (region15 .running)).region 15).state = .loading ∧
    (go .regionClear (region15 .empty)).cfg.pcmdRej = true ∧
    (go .regionRelease (region15 .held)).cfg.cmds = [(.release, 15)] ∧
    (let t := go .regionAbort (streaming true)
     (t.region 15).state = .aborted ∧ t.cfg.err = 26) := by decide +kernel

theorem wit_RegionCommands :
    (∀ k ∈ [RegionState.running, .held, .aborted, .fenced], (region15 k).accepts .load = true ∧
      (region15 k).accepts .clear = true ∧ (region15 k).accepts .release = decide (k = .held)) ∧
    ((region15 .empty).accepts .load = true ∧ (region15 .empty).accepts .clear = false ∧
      (region15 .loading).accepts .load = false ∧ (region15 .running).cfg.load = none) ∧
    ((streaming true).cfg.load.isSome = true ∧ (streaming true).commanded .load 15 = true ∧
      (streaming true).loadRegion = 15) ∧
    ((region15 .running).cfg.pcmdSrc = false ∧ (region15 .running).lace.reqs = [] ∧
      (let s := region15 .running
       let q := { s with cfg := { s.cfg with pcmdSrc := true } }
       q.accepts .load = true ∧ q.cfg.pcmdSrc = true)) ∧
    (let s := (region15 .running).modPacer 63 (fun x => { x with joinTile := 31, lead := 2 })
     s.regionOf (s.paceTile 63) = 15 ∧ s.accepts .load = true ∧
       ((go .regionLoad s).pacer 63).held = some 15 ∧ ((go .regionLoad s).pacer 63).lead = 0) ∧
    (region15 .running).cfg.state = .done ∧ (live.cfg.preg.toNat = 0) := by decide +kernel

/-- A release, or a clear, of region 15 is under way. -/
def ending (c : RegionCmd) : State :=
  let s := (region15 (if c = .release then .held else .loading)).modTile 127 (fun x => { x with autostart := true })
  { s with cfg := { s.cfg with cmds := [(c, 15)] } }

theorem test_region_ends :
    (let t := go (.releaseComplete 15) (ending .release)
     (t.region 15).state = .running ∧ t.cfg.pcmdDone = true) ∧
    (let t := go (.clearComplete 15) (ending .clear)
     (t.region 15).state = .empty ∧ (t.tile 127).power = .gated) ∧
    ((go (.loadingCleared 15) (streaming false)).tile 127).clearing = false := by decide +kernel

theorem wit_RegionEnds :
    (((streaming false).cfg.load.map (·.cleared)) = some false ∧ (streaming false).commanded .load 15 = true) ∧
    (let s := ending .release
     s.commanded .release 15 = true ∧ (s.region 15).state = .held ∧ s.regionOf 127 = 15 ∧ (s.tile 127).power = .on ∧
       (s.tile 127).fenced = false ∧ (s.core 127).state ≠ .fenced ∧ s.tilePowerBit 127 = false ∧
       s.pwr.powerQueue.contains 127 = false) ∧
    (((ending .release).setFrame (frameAddr 127 4 3) 1).tilePowerBit 127 = true) ∧
    ((ending .clear).commanded .clear 15 = true ∧ (ending .clear).regionOf 127 = 15 ∧
      (ending .clear).lace.reqs = [] ∧ (ending .release).lace.reqs = []) ∧
    (let s := region15 .held
     let q := ({ s with cfg := { s.cfg with seqPhase := .regions [15] } } : State).modPacer 63 (fun x => { x with
       held := some 15, acc := 3 })
     q.commanded .release 15 = false ∧ q.cfg.seqPhase = .regions [15] ∧ (q.region 15).state = .held ∧
       q.lace.reqs = [] ∧ ((go (.releaseComplete 15) q).pacer 63).held = none ∧
       ((go (.releaseComplete 15) q).pacer 63).acc = 0) := by decide +kernel

/-- The supply of tile 127. -/
def supply (p : Power) (q : List Nat) (c : Bool) : State :=
  let s := live.modTile 127 (fun x => { x with power := p, clearing := c })
  { s with pwr := { s.pwr with powerQueue := q } }

theorem test_gating :
    ((go (.tileGate 127) (supply .on [] false)).tile 127).power = .gating false ∧
    (go (.tilePower 127) (supply .gated [] false)).pwr.powerQueue = [127] ∧
    ((go (.tilePowerRemoved 127) (supply (.gating true) [] false)).tile 127).power = .retain ∧
    ((go .tilePowerRestore (supply (.queued true) [127] false)).tile 127).power = .restoring true ∧
    (let t := go (.tilePowerComplete 127) (supply (.restoring false) [] false)
     (t.tile 127).power = .on ∧ (t.core 127).state = .halted) ∧
    (go (.tileGate 127) State.reset).pwr.gateRej = true := by decide +kernel

theorem wit_Gating :
    (State.reset.regionState 127 ≠ .running) ∧
    (∀ p ∈ [Power.on, .gated, .retain], ((supply p [] false).tile 127).fenced = false ∧
      (supply p [] false).regionState 127 = .running ∧ ((supply p [] false).tile 127).power = p) ∧
    (∀ m ∈ [false, true], ((supply (.gating m) [] false).tile 127).power = .gating m ∧
      (supply (.gating m) [] false).pwr.powerQueue.contains 127 = false ∧
      (supply (.queued m) [127] false).pwr.powerQueue = (127 : TileId).val :: [] ∧
      ((supply (.queued m) [127] false).tile 127).power = .queued m ∧
      ((supply (.restoring m) [] true).tile 127).clearing = true ∧
      ((supply (.restoring m) [] false).tile 127).clearing = false ∧
      ((supply (.restoring m) [] false).core 127).state ≠ .fenced) := by decide +kernel

/-! ### The governor, the peripherals, registers, Awl, PERT -/

/-- One sample of the window gave `n` mW. -/
def spent (n : Nat) (p : Pwr) : Pwr := { p with estN := 1, estSum := n * 10 ^ 8 }

/-- The governor works in mode `m`; `f` sets the rest. -/
def governed (m : BitVec 2) (f : Pwr → Pwr) : State :=
  { live with
    cfg := { live.cfg with boot := .done, seqPhase := .finished, pacersStarted := true }
    pwr := f { live.pwr with vcEn := true, pmbusOk := true, mode := m, target := 850 } }

theorem test_governor :
    (go (.governorWindow 850 0 0) (governed 1 (spent 4001))).pwr.vout = some (825, false) ∧
    (go (.governorWindow 850 0 0) (governed 1 (fun p => spent 3599 { p with target := 800 }))).pwr.vout = some (805, false) ∧
    (go (.governorWindow 850 0 0) (governed 1 (fun p => spent 3600 { p with target := 800 }))).pwr.vout = none ∧
    (go (.governorWindow 850 0 0) (governed 0 (fun p => { p with tj := 96 }))).pwr.vout = some (825, false) ∧
    (let t := go .governorSample ((governed 2 id).setPacer 0 { Pacer.init 0 with en := true, depth := 8, lead := 5 })
     t.pwr.vout = some (875, false) ∧ t.pwr.suspend = 8) ∧
    (go (.voutCommand true) (governed 1 (fun p => { p with vout := some (820, false) }))).pwr.target = 820 ∧
    (go (.voutCommand false) (governed 1 (fun p => { p with vout := some (820, true) }))).pwr.pmErr = true ∧
    (let t := go (.pmAlert (some 0x4000#16) false) (governed 1 id)
     t.pwr.pmStatus = 0x4000 ∧ t.pwr.pmErr = true) := by decide +kernel

/-- R337: 850 mV and 550 mV with N = -12. -/
theorem test_vout_word :
    ∀ p ∈ [(850, 0x0D9A#16), (550, 0x08CD#16)], (go (.voutCommand true) (governed 1 (fun x =>
      { x with voutN := 20, vout := some (p.1, false) }))).pwr.pmSent.map (·.data) = [some p.2] := by decide +kernel

theorem wit_Governor :
    (∀ m ∈ [0, 1, 2], let s := governed (BitVec.ofNat 2 m) id
     s.governs = true ∧ s.pwr.tj ≤ (s.pwr.tlim : Int) ∧ s.pwr.thermHold = false) ∧
    (live.governs = false) ∧ ((governed 0 (fun p => { p with tj := 96 })).pwr.tlim : Int) < 96 ∧
    ((governed 0 (fun p => { p with thermHold := true })).pwr.vmin ≤ (governed 0 id).pwr.vmax) ∧
    (let p := (governed 1 (fun p => { p with target := 800 })).pwr
     p.budget < 4001 ∧ 3599 ≤ p.budget ∧ 10 * 3599 < 9 * p.budget ∧ p.goal < p.vset ∧ 9 * p.budget ≤ 10 * 3600 ∧
       (spent 4001 p).estN ≠ 0 ∧ (spent 4001 p).estSum / ((spent 4001 p).estN * 10 ^ 8) = 4001) ∧
    (let s := (governed 2 id).setPacer 0 { Pacer.init 0 with en := true, depth := 8, lead := 5 }
     s.eligible = [0] ∧ (s.pacer 0).depth / 2 < (s.pacer 0).lead ∧ s.governs = true ∧ s.pwr.mode = 2 ∧
       s.pwr.thermHold = false ∧ s.pwr.tj ≤ (s.pwr.tlim : Int)) ∧
    (let s := (governed 2 (fun p => { p with meas := 850, tj := 85 })).setPacer 0
       { Pacer.init 0 with en := true, depth := 8, fresh := false }
     s.eligible = [0] ∧ (s.pacer 0).lead = 0 ∧ (s.pacer 0).fresh = false ∧ s.pwr.meas = 850 ∧ s.pwr.tj = 85 ∧
       (s.setPacer 0 { s.pacer 0 with fresh := true }).eligible = [0]) ∧
    ((governed 2 (fun p => { p with calm := true, suspend := 0 })).eligible = []) ∧
    ((governed 1 (fun p => { p with vout := some (820, false) })).pwr.vout = some (820, false) ∧
      (governed 1 id).pwr.pmbusOk = true ∧ (governed 1 id).pwr.vout = none ∧ live.pwr.pmbusOk = false) := by
  decide +kernel

/-- R345: 3 instructions that core 5 retires add three times the energy of one. -/
theorem test_estimate :
    (let s := governed 0 (fun p => { p with meas := 850, tj := 85 })
     (go .governorSample (s.modCore 5 (fun x => { x with instret := 3 }))).pwr.estSum =
       (go .governorSample s).pwr.estSum + 3 * 390000) := by decide +kernel

/-- The warning comparator is armed, and VCORE is on. -/
def armed : State := governed 0 (fun p => { p with warnArmed := true, auxArmed := true })

theorem test_supplies :
    (go (.vcoreWarning 519) armed).pwr.vwarn = true ∧ (go (.vcoreWarning 520) armed).pwr.vwarn = false ∧
    (go (.vcoreWarningRearm 531) (governed 0 id)).pwr.warnArmed = true ∧ (go (.vcoreSettled 860) armed).pwr.settled = true ∧
    (go .vauxWarning armed).pwr.auxwarn = true ∧ (go .vauxWarning (governed 0 (fun p => { p with auxArmed := false }))).pwr.auxwarn = false ∧
    (go (.vauxReset (1690, { bootsel := 0, pullsel := true })) (go .vauxWarning armed)).pwr.auxArmed = false ∧
    (go (.vauxReset (1701, { bootsel := 0, pullsel := true })) (go .vauxWarning armed)).pwr.auxArmed = true ∧
    ((go (.vccioWarning 3) (pin0 id)).pinBank 3).vccioWarn = true ∧
    ((go (.vccioWarningEnd 3) (go (.vccioWarning 3) (pin0 id))).pinBank 3).vccioWarn = false ∧
    (go (.tempReading 20 96 (-3) 5 6) live).pwr.tj = 96 ∧ (go (.tempReading 20 96 (-3) 5 6) live).pwr.therm = true ∧
    (go (.pwrModeWrite 3) armed).pwr.cfgRej = true ∧ (go (.pwrModeWrite 0x51) armed).pwr.nextMode = some 1 ∧
    (go (.pwrLimitWrite .vlim 0x03B60000#32) live).pwr.vmin = 550 ∧ (go (.pwrLimitWrite .warn 479) live).pwr.cfgRej = true ∧
    (go (.pwrLimitWrite .trip 500) live).pwr.trip = 500 ∧
    (go .pnowMaxClr (governed 0 (fun p => { p with pnow := 3, pnowMax := 9 }))).pwr.pnowMax = 3 ∧
    (go .tempMaxClr (governed 0 (fun p => { p with tj := 3, tjMax := 9 }))).pwr.tjMax = 3 := by decide +kernel

/-- A reading beyond R388's ratings is a reading. -/
theorem test_beyond_ratings : (go (.tempReading 126 0 0 0 0) live).pwr.tj = 126 := by decide +kernel

/-- The device is held in reset for its temperature, and the first reading of two above 110 °C. -/
def hotHeld : State := { live with cfg := { live.cfg with boot := .thermal } }
def hotOnce : State := { live with pwr := { live.pwr with hot := true } }

theorem test_thermal :
    (go (.tempReading 110 0 0 0 0) hotOnce).cfg.boot = .thermal ∧
    (go (.thermalRestart 100 { bootsel := 0, pullsel := false }) hotHeld).cfg.boot = .reset := by decide +kernel

theorem wit_SupplyMonitors :
    (armed.pwr.warnArmed = true ∧ 519 < armed.pwr.warn ∧ armed.pwr.warn ≤ 520) ∧
    (live.pwr.warnArmed = false ∧ live.pwr.vcEn = false ∧ (governed 0 id).pwr.target + 10 < 861 ∧
      839 + 10 < (governed 0 id).pwr.target) ∧
    (let off := { live with cfg := { live.cfg with boot := .off } }
     off.cfg.boot = .off ∧ hotOnce.pwr.hot = true ∧ live.cfg.boot ≠ .thermal) ∧
    ((governed 0 id).pwr.vcEn = true ∧ (governed 0 id).pwr.warn + 10 < 531 ∧ 860 ≤ (governed 0 id).pwr.target + 10 ∧
      (governed 0 id).pwr.target ≤ 860 + 10) ∧
    ((pin0 id).pins.released = true ∧ live.pins.released = false) ∧
    (live.cfg.boot ≠ .off ∧ live.pwr.hot = false ∧ hotOnce.pwr.hot = true ∧ hotOnce.cfg.boot ≠ .thermal ∧
      hotHeld.cfg.boot = .thermal) ∧
    (live.pwr.pmbusOk = false ∧ armed.pwr.pmbusOk = true ∧ live.pwr.trip + 20 ≤ 480 ∧ live.pwr.warn = 520) := by decide +kernel

/-- UART, SPI and I2C 1 as the arguments make them. -/
def serial (u : Uart → Uart) (z : Spi → Spi) (i : I2c → I2c) : State :=
  ((live.setUart 1 (u { Uart.init 1 with ctrl := 0x101 })).setSpi 1 (z { Spi.init 1 with ctrl := 0x401 })).setI2c 1
    (i (I2c.init 1))

def full16 : List Byte := List.replicate 16 7

theorem test_serial :
    ((go (.uartDataWrite 1 0x41) (serial id id id)).uart 1).shift = some 0x41 ∧
    ((go (.uartDataRead 1) (serial (fun u => { u with rx := [1, 2] }) id id)).uart 1).rx = [2] ∧
    (let t := go (.uartDataRead 1) (withLoad 128 0x080B0100 3 (serial (fun u => { u with rx := [1, 2] }) id id))
     (t.uart 1).rx = [2] ∧ (t.core 128).load.map (·.reply) = some (some (.data 1))) ∧
    ((go (.uartReceive 1 9 false false) (serial (fun u => { u with rx := full16 }) id id)).uart 1).rxOvf = true ∧
    ((go (.uartTransmitDone 1) (serial (fun u => { u with shift := some 1, tx := [2] }) id id)).uart 1).shift = some 2 ∧
    ((go (.spiDataWrite 1 5) (serial id id id)).spi 1).shift = some 5 ∧
    ((go (.spiDataRead 1) (serial id (fun z => { z with rx := [1, 2] }) id)).spi 1).rx = [2] ∧
    ((go (.spiByteDone 1 8) (serial id (fun z => { z with shift := some 1 }) id)).spi 1).rx = [8] ∧
    ((go (.i2cWrite 1 true) (serial id id (fun i => { i with pend := { i.pend with write := true } }))).i2c 1).ackRx = true ∧
    ((go (.i2cRead 1 6) (serial id id (fun i => { i with pend := { i.pend with read := true } }))).i2c 1).data = 6 ∧
    ((go (.i2cDone 1 false) (serial id id (fun i => { i with busy := true }))).i2c 1).done = true := by decide +kernel

theorem wit_SerialPorts :
    (∀ n ∈ [15, 16], let s := serial (fun u => { u with shift := some 1, tx := full16.take n, rx := full16.take n }) (fun z => { z with
       shift := some 1, tx := full16.take n, rx := full16.take n }) id
     (s.uart 1).shift.isSome = true ∧ (s.uart 1).tx.length = n ∧ (s.uart 1).rx.length = n ∧
       (s.uart 1).ctrl.getLsbD 0 = true ∧ (s.spi 1).ctrl.getLsbD 0 = true ∧ (s.spi 1).shift = some 1 ∧
       (s.spi 1).tx.length = n ∧ (s.spi 1).rx.length = n) ∧
    (let s := serial id id id
     (s.uart 1).shift = none ∧ (s.uart 1).tx = [] ∧ (s.spi 1).shift = none ∧ (s.spi 1).tx = []) ∧
    (let s := serial id (fun z => { z with shift := some 1, rx := full16 }) id
     (s.spi 1).shift = some 1 ∧ (s.spi 1).tx = [] ∧ (s.spi 1).rx.length = 16) ∧
    ((live.uart 1).ctrl.getLsbD 0 = false ∧ (live.uart 1).rx = []) ∧
    (let s := serial id id (fun i => { i with busy := true })
     let p := (s.i2c 1).pend
     (s.i2c 1).busy = true ∧ p.start = false ∧ p.write = false ∧ p.read = false ∧ p.stop = false) ∧
    (let pend := fun (a b c d : Bool) => (serial id id (fun i => { i with
       busy := true, pend := { start := a, write := b, read := c, stop := d } }))
     ((pend true true true true).i2c 1).pend.start = true ∧
       ((pend false true true true).i2c 1).pend = { start := false, write := true, read := true, stop := true } ∧
       ((pend false false true true).i2c 1).pend.read = true ∧ ((pend false false false true).i2c 1).pend.stop = true) ∧
    (∀ a ∈ [0x080B0100, 0x080B0300], let s := withLoad 128 a 3 (serial id id id)
     (s.core 128).load = some (aLoad a 3) ∧ (aLoad a 3).reply = none ∧ target 128 (aLoad a 3).addr = .reg a ∧
       s.storeWaits 128 (aLoad a 3).addr = false) ∧ (live.core 128).load = none := by decide +kernel

/-- Timer 3 counts; QWDOG runs with action `a`. -/
def dog (a : BitVec 2) : State :=
  let s := live.setTimer 3 { Timer.init 3 with en := true, periodic := true, load := 9, count := 1 }
  { s with hk := { s.hk with qwdog := { s.hk.qwdog with en := true, action := a, running := 10, remaining := 6 } } }

theorem test_timers :
    ((go (.timerLoadWrite 3 4) live).timer 3).nextCount = some 4 ∧
    (let t := go (.timerExpiry 3) (dog 0)
     (t.timer 3).expired = true ∧ (t.timer 3).count = 9) ∧
    (let t := go (.timerExpiry 3) (go (.timerLoadWrite 3 0) ((dog 0).setTimer 3 { (dog 0).timer 3 with count := 2 }))
     (t.timer 3).expired = false ∧ (t.timer 3).count = 0) ∧
    (go (.qwdogCtrlWrite 0x00050003#32) live).hk.qwdog.remaining = 5 ∧
    (go (.qwdogKick 0xC0B1#32) (dog 0)).hk.qwdog.remaining = 1000 ∧
    (go (.qwdogKick 0xC0B0#32) (dog 0)).hk.qwdog.fired = true ∧ (go .qwdogEarly (dog 0)).hk.qwdog.early = true ∧
    (go (.qwdogExpiry { bootsel := 0, pullsel := false }) (dog 2)).pwr.lastReset = 5 := by decide +kernel

theorem wit_TimersAndQwdog :
    (((dog 0).timer 3).en = true ∧ ((dog 0).timer 3).count ≠ 0 ∧ ((dog 0).timer 3).nextCount = none ∧
      (live.timer 3).en = false) ∧
    (let x := (live.setTimer 3 { Timer.init 3 with en := true, nextCount := some 7, count := 1 }).timer 3
     x.en = true ∧ x.nextCount = some 7 ∧ x.count = 1) ∧
    (let x := (live.setTimer 3 { Timer.init 3 with en := true, nextCount := some 0, count := 2 }).timer 3
     x.en = true ∧ x.nextCount = some 0 ∧ x.count ≠ 1) ∧
    (let s := { dog 0 with quince := { (dog 0).quince with dbgHalted := true } }
     s.hk.qwdog.en = true ∧ s.quince.dbgHalted = true) ∧
    ((dog 0).req 128).phase = .request ∧
    ((dog 0).hk.qwdog.en = true ∧ (dog 0).quince.dbgHalted = false ∧ (dog 0).hk.qwdog.running / 2 < (dog 0).hk.qwdog.remaining ∧
      live.hk.qwdog.en = false) ∧
    (∀ a ∈ [0, 1, 2], (dog (BitVec.ofNat 2 a)).hk.qwdog.action.toNat = a) := by
  refine ⟨?_, ?_, ?_, ?_, ?_, ?_, ?_⟩ <;> decide +kernel

/-- Every block is open to the Cobblers. -/
def open' : State := { live with dev := { live.dev with ewBlocks := 0xFFF, ewTiles := true } }

theorem test_registers :
    (go (.registerWrite 5 0x08010014#32 0x1234) live).cfg.wdogMs = 0x0FA0 ∧
    (go (.registerWrite 5 0x08010014#32 0x1234) open').cfg.wdogMs = 0x1234 ∧
    (go (.registerWrite 128 0x08020004#32 5) live).pwr.budget = 15 ∧
    ((go (.registerWrite 128 0x0810001C#32 1) (live.modTile 0 (fun x => { x with evt := 3 }))).tile 0).evt = 2 := by
  decide +kernel

/-- What a register reads as. -/
theorem test_register_reads :
    (go (.registerWrite 128 0x08010020#32 0x12345678#32) live).regValue 128 0x08010020 = 0x12345678#32 ∧
    (let s := live.modCore 0 (fun x => { x with haltPend := true, stepping := true })
     s.readTile 0 0x00 % 16 = 0xC) ∧
    (let s := live.setPacer 0 { Pacer.init 0 with count := 2 ^ 32 * 5 + 6 }
     s.regValue 3 0x08038010 = 5#32) ∧
    (let s := live.modCore 0 (fun x => { x with state := .halted })
     (go (.registerWrite 128 0x08100084#32 77) s).regIn 0 0 1 = 77#32 ∧
       (go (.registerWrite 128 0x08100080#32 77) s).regIn 0 0 0 = 0#32) := by decide +kernel

/-- R221: a relock in progress reads 1. -/
theorem test_read_relock :
    ({ live with clk := { live.clk with relockAct := true } } : State).regValue 128 0x08030000 &&& 0x2000#32 =
      0x2000#32 := by decide +kernel

theorem wit_RegisterReads :
    (∀ k ∈ [EngState.halted, .faulted, .sys], ((live.modCore 0 (fun x => { x with state := k })).core 0).state = k) ∧
    ((live.core 0).state ≠ .halted ∧ (live.core 0).state ≠ .faulted ∧ (live.core 0).state ≠ .sys) ∧
    ((live.core 0).epcAt ≠ some live.time ∧
      (let s := live.modCore 0 (fun x => { x with epcAt := some 0 })
       (s.core 0).epcAt = some s.time)) ∧
    ((live.core 5).latchOf 0 = none ∧ (live.pin 0).sw.cycle = 0 ∧ live.hk.qwdog.remaining < 0x10000) ∧
    (let s := live.modCore 5 (fun x => { x with paceLatch := [(0, some 9#32)] })
     (s.core 5).latchOf 0 = some 9#32) ∧
    (∀ k ∈ [SeamState.faultHold, .run], ((live.setSeam 0 { live.seam 0 with state := k }).seam 0).state = k) ∧
    (∀ k ∈ [LoaderState.done, .failed], ({ live with cfg := { live.cfg with state := k } } : State).cfg.state = k) := by
  decide +kernel

theorem wit_RegisterWrites :
    (1 : Nat) % 4 ≠ 0 ∧ live.mayWrite 5 (target 5 0x08010014#32) = false ∧ (0x01200000 : Nat) < 0x01800000 ∧
    (∀ i, i < 12 → open'.dev.ewBlocks.getLsbD i = true) ∧ (0 : Word).getLsbD 2 = false := by decide +kernel

/-- The target of test `t`. -/
def targetOf (t : Nat) : Nat := if t = 0x02 then 255 else if t = 0x13 then 128 else 127

/-- A run of test `t` after `n` steps. -/
def ranTo (t n : Nat) (cut : Bool) : AwlRun :=
  { AwlRun.start t (targetOf t) with steps := n, folded := n, next := n, cut := cut }

/-- A run on demand of test `t` after `n` steps. -/
def running (t n : Nat) (cut : Bool) : State :=
  { live with bist := { live.bist with
    test := BitVec.ofNat 8 t, target := BitVec.ofNat 8 (targetOf t), demand := some (ranTo t n cut) } }

def asked (t : Byte) : State := { live with bist := { live.bist with test := t, target := 127 } }

theorem test_awl :
    (go .bistStart (asked 0x11)).bist.state = 1 ∧ (go .bistStart (asked 0x10)).bist.rej = true ∧
    ((go .bistStop (running 0x11 3 false)).bist.demand.map (·.cut)) = some true ∧
    (go (.bistWindow .demand 0x3F 0 false false) (running 0x11 511 false)).bist.steps = 512 ∧
    (let t := go (.bistTestEnd .demand) (running 0x11 3 true)
     t.bist.result = 3 ∧ t.bist.done = true ∧ t.flt.inbox.length = 1) ∧
    ((go (.bistPassStart (.bank 127)) { live with bist := { live.bist with bgEn := 0xF } }).runOf
      (.background (.bank 127))).isSome = true := by
  refine ⟨?_, ?_, ?_, ?_, ?_, ?_⟩ <;> decide +kernel

/-- R378: window 62 is met by an access; window 63 runs next, then 62 again, and the signature is that of the
steps in order. -/
theorem test_window_again :
    let w := fun c s => go (.bistWindow .demand 0x3F 0 false c) s
    let s := running 0x12 62 false
    (w true s).bist.demand.map (fun r => (r.at, r.steps)) = some (63, 62) ∧
      (w false (w true s)).bist.demand.map (·.at) = some 62 ∧
      (w false (w false (w true s))).bist.demand.map (·.signature) =
        (w false (w false s)).bist.demand.map (·.signature) := by decide +kernel

/-- A background pass of bank 127, or a start-up test, whose last step is done; its reference is `sig`. -/
def passed (sig : Word) : State :=
  let r := ranTo 0x11 512 false
  { live with
    cfg := { live.cfg with boot := .tests, tests := [(127, 0x11)], sigrefs := [{ test := 0x11, target := 127, sig := sig }] }
    bist := { live.bist with background := [(127, r)], startup := [(127, r)] } }

def sig127 : Word := (ranTo 0x11 512 false).signature

theorem test_awl_ends :
    (go (.bistTestEnd (.startup 127)) (passed sig127)).cfg.boot = .sequence ∧
    (let t := go (.bistTestEnd (.background (.bank 127))) (passed (sig127 + 1))
     (t.tile 127).bankFenced = true ∧ t.dev.svcBank = true) := by decide +kernel

theorem wit_AwlTests :
    ((asked 0x11).bist.demand = none ∧ (asked 0x11).bist.test.toNat = 0x11 ∧ (asked 0x11).bist.target.toNat = 127 ∧
      ((asked 0x10).tile 127).fenced = false ∧ (asked 0x10).regionState 127 ≠ .held ∧
      (asked 0x10).regionState 127 ≠ .aborted ∧ (running 0x11 0 false).bist.demand.isSome = true ∧
      (asked 0x99).bist.test.toNat = 0x99) ∧
    (let s := (asked 0x10).setRegion 0 { state := .held, mask := 0, loads := 0 }
     s.regionState 127 = .held ∧ s.bist.demand = none) ∧
    (let s := { live with bist := { live.bist with bgEn := 0xF } }
     (∀ g ∈ [BgTest.bank 127, .localMem 127, .qsram, .analog], s.runOf (.background g) = none) ∧
       (∀ i ∈ [0, 1, 2, 3], s.bist.bgEn.getLsbD i = true) ∧
       (s.tile 127).power = .on ∧ (s.tile 127).fenced = false ∧ (s.tile 127).bankFenced = false ∧
       (s.tile 127).clearing = false ∧ s.regionState 127 ≠ .loading ∧ live.bist.bgEn.getLsbD 0 = false ∧
       ((go (.bistPassStart (.bank 127)) s).runOf (.background (.bank 127))) ≠ none) ∧
    (∀ t ∈ [0x10, 0x11, 0x12, 0x13, 0x02], ∀ n ∈ [0, 16], (running t n false).bist.demand = some (ranTo t n false) ∧
      (ranTo t n false).cut = false ∧ (ranTo t n false).steps ≠ (ranTo t n false).planned ∧ (ranTo t n false).test = t ∧
      (ranTo t n false).at = n) ∧
    (∀ i, i < 64 → (running 0x11 511 false).eccAt (bankWord 127 + 64 * 511 + i) = none) ∧
    (∀ i, i < 64 → (running 0x12 63 false).eccAt (localWord 127 + 64 * 63 + i) = none) ∧
    (live.bist.policyLocal = false ∧ live.clk.rootLock = false ∧ live.bist.refUser = false ∧
      live.runOf .demand = none) ∧
    ((ranTo 0x11 512 false).steps = (ranTo 0x11 512 false).planned ∧ (ranTo 0x11 3 true).cut = true ∧
      (running 0x11 512 false).refOf 0x11 127 = none) ∧
    ((passed sig127).runOf (.startup 127) = some (ranTo 0x11 512 false) ∧
      (passed sig127).refOf 0x11 127 = some (ranTo 0x11 512 false).signature ∧
      (passed sig127).cfg.tests = [((127 : TileId).val, 0x11)] ∧
      (passed sig127).runOf (.background (.bank 127)) = some (ranTo 0x11 512 false) ∧
      (passed (sig127 + 1)).refOf 0x11 127 ≠ some (ranTo 0x11 512 false).signature ∧
      ((passed sig127).tile 127).bankFenced = false) := by
  refine ⟨?_, ?_, ?_, ?_, ?_, ?_, ?_, ?_, ?_⟩ <;> decide +kernel

theorem wit_AwlTests_policy :
    let s := { running 0x12 63 false with bist := { (running 0x12 63 false).bist with policyLocal := true, refUser := true } }
    s.bist.demand = some (ranTo 0x12 63 false) ∧ s.bist.policyLocal = true ∧ s.bist.refUser = true := by decide +kernel

/-- PERT as the key sequence leaves it, with every perturbation enabled; the image allows it. -/
def pert (key : Nat) (f : State → State) : State :=
  f { live with
    cfg := { live.cfg with pertOk := true }
    pert := { live.pert with key := key, en := 0x7F, lace := 0x32, ecc := 0x401 } }

theorem test_pert :
    (go (.pertKeyWrite 0xA15E#32) (pert 1 id)).pert.key = 2 ∧ (go (.pertKeyWrite 0) (pert 2 id)).pert.en = 0 ∧
    (let s := pert 2 (fun s => { s with wires := { s.wires with bpHeld := [7] } })
     (go .pertBpHoldExpiry s).wires.bpHeld = [] ∧ ((go .pertBpHoldExpiry s).node 7).ack = true) ∧
    go .pertEccArm (pert 0 id) = pert 0 id ∧
    (go (.registerWrite 128 0x0808002C#32 5) (pert 1 id)).pert.key = 0 := by decide +kernel

/-- PERT is open only where the LOCK fuse is not blown; the fuse is the part's (Config). -/
theorem wit_Perturbations (h : Config.lockFuse = false) :
    ((pert 0 id).pert.key = 0 ∧ (pert 1 id).pert.key = 1) ∧
    ((pert 2 id).pertOpen = true ∧ (pert 2 id).pert.en.getLsbD 3 = true ∧ (pert 2 id).pert.en.getLsbD 4 = true ∧
      (pert 2 id).pert.en.getLsbD 5 = true) ∧
    ((pert 2 id).pert.eccWord = some 0x8001 ∧ (pert 2 id).eccAt 0x8001 = none ∧
      (∀ e ∈ [Ecc.poison, .single (some false), .double false true],
        ((pert 2 id).setEcc 0x8001 (some e)).eccAt 0x8001 = some e) ∧
      (pert 2 id).pert.ecc.getLsbD 9 = false ∧
      (pert 2 (fun s => { s with pert := { s.pert with ecc := 0x601 } })).pert.eccWord = some 0x8001 ∧
      (0x601#32).getLsbD 9 = true ∧ (live.pert.eccWord = none ∨ live.pert.en = 0) ∧
      (pert 2 (fun s => { s with wires := { s.wires with bpHeld := [7] } })).wires.bpHeld = 7 :: []) ∧
    (pert 1 id).pertOpen = false := by
  refine ⟨by decide +kernel, ⟨?_, by decide +kernel⟩, by decide +kernel, ?_⟩
  · simp [State.pertOpen, h, pert, live, State.setRegion, State.reset, Cfg.init]
  · simp [State.pertOpen, pert]

theorem test_pert_arms (h : Config.lockFuse = false) :
    (go .pertLaceArm (pert 2 id)).pert.laceArmed = some (2, 3) ∧
    (go .pertSupplyVaux (pert 2 id)).pwr.auxwarn = true := by
  have e := (wit_Perturbations h).2.1.1
  constructor
  · simp [go, exec, execPertLaceArm, State.armLace, e]; decide +kernel
  · simp [go, exec, execPertSupplyVaux, State.pertVaux, e]; decide +kernel

/-! ### Resets, boot, images, the TAP, the start-up sequence, the queue -/

def lowStraps : Straps := { bootsel := 0, pullsel := true }

/-- A device that has run: a record in its log, a fenced tile counted, VCORE up, TAP in BYPASS. -/
def used : State :=
  { armed with
    flt := { armed.flt with log := [(3, { w0 := 1, w1 := 2, w2 := 3, w3 := 4 })], head := 4, count := 9 }
    dev := { armed.dev with tilesTotal := 2, svcTiles := true }, jtag := { armed.jtag with ir := .bypass } }

theorem test_resets :
    (let t := go (.resetN lowStraps) used
     t.flt.count = 9 ∧ t.dev.tilesTotal = 0 ∧ t.pwr.lastReset = 1 ∧ t.jtag.ir = .bypass ∧ t.pins.pullsel = true) ∧
    ((go (.vcoreReset (459, lowStraps)) used).dev.tilesTotal = 2) ∧ (go (.vcoreReset (460, lowStraps)) used) = used ∧
    (go (.vauxReset (1619, lowStraps)) used).pwr.lastReset = 3 ∧ (go (.vauxReset (1620, lowStraps)) used) = used ∧
    (let t := go (.resetN lowStraps) { used with cfg := { used.cfg with boot := .thermal } }
     t.cfg.boot = .thermal ∧ t.dev.tilesTotal = 0) ∧
    ((go (.resetN lowStraps) (used.modPin 3 (fun x => { x with sync1 := true, sync2 := true }))).pin 3).sync2 = false ∧
    (go (.powerOnReset lowStraps) used).flt.count = 0 ∧ (go .vaonFall used).cfg.boot = .off := by decide +kernel

/-- R373: the record of a test on demand that the reset cuts short. -/
theorem test_reset_cuts_test :
    (let s := { used with bist := (running 0x11 3 false).bist }
     s.bist.demand = some (ranTo 0x11 3 false) ∧ (ranTo 0x11 3 false).steps ≠ (ranTo 0x11 3 false).planned ∧
       s.bist.background = [] ∧ s.flt.inbox = [] ∧
       (SMap.read Record.zero (go (.resetN lowStraps) s).flt.log 4).w3 = 0x00037F11#32) := by decide +kernel

theorem wit_DeviceResets : used.inReset = false ∧ used.pwr.vcEn = true ∧ used.pwr.trip = 460 ∧ live.pwr.vcEn = false ∧
    used.flt.inbox = [] ∧ used.bist.demand = none ∧ used.bist.background = [] ∧
    ({ used with cfg := { used.cfg with boot := .off } } : State).cfg.boot = .off := by
  decide +kernel

/-- A boot table: VCORE on PMBus at 0x20 with 800 mV, primary at 0, golden at 0x10_0000, one attempt each. -/
def tableBytes : List Byte :=
  let b : List Byte := leBytes 4 0x424B4741 ++ leBytes 2 1 ++ [1, 0] ++ leBytes 4 0 ++ leBytes 4 0x100000 ++ [0x10, 0x20] ++
    leBytes 2 800 ++ leBytes 2 100 ++ [2] ++ leBytes 5 0
  b ++ leBytes 4 (crc32c b).toNat

/-- The boot at one of its steps, with a valid table; two flashes give a byte a cycle. -/
def booting (b : BootStep) (tries : List Bool) : State :=
  { live with
    cfg := { live.cfg with boot := b, bootsel := 1, table := some (tableOf tableBytes), tries := tries }
    pwr := { live.pwr with target := 850, vcEn := true } }

theorem test_boot :
    (go (.analogStartup 0x1FFFFFFF [] 0) live).cfg.boot = .table ∧
    (let t := go (.analogStartup 0x1FFFFFFE [] 0) live
     t.cfg.boot = .stopped ∧ t.cfg.status = 7 ∧ t.bist.result = 2) ∧
    (let t := go (.bootTableRead tableBytes [] (some 0x14) true) (booting .table [])
     t.cfg.tableOk = true ∧ t.pwr.pmbusOk = true ∧ t.pwr.target = 800) ∧
    (let t := go (.bootTableRead [] tableBytes none true) (booting .table [])
     t.cfg.backup = true ∧ t.pwr.target = 850) ∧
    (let t := go (.vcoreArrival 875) (booting .vcore [])
     t.cfg.boot = .load ∧ t.cfg.tries = [false, true] ∧ t.cfg.wdogMs = 100) ∧
    (go (.vcoreArrival 876) (booting .vcore [])).cfg.boot = .vcore ∧
    (go .vcoreArrivalTimeout (booting .vcore [])).cfg.boot = .stopped ∧
    (go .loadAttempt (booting .load [true])).cfg.status = 3 ∧ (go .loadAttempt (booting .load [])).cfg.status = 6 ∧
    (go .reload (booting .stopped [])).cfg.tries = [false, true] ∧
    (go .errClr { live with cfg := { live.cfg with err := 7 } }).cfg.err = 0 := by decide +kernel

/-- R256, R257: how the flash's data lines spell 0x41 in each form, and what the reads of the boot ask for. -/
theorem test_flash :
    flashBytes 0 [4, 1] = [0x41] ∧ flashBytes 1 [0x41] = [0x41] ∧
    flashBytes 2 [0, 2, 0, 0, 0, 0, 0, 2] = [0x41] ∧
    (go (.bootTableRead tableBytes [] none true) (booting .table [])).cfg.flash.map (fun f => (f.cmd, f.addr, f.both)) =
      some (0x6B, 0, true) ∧
    (go .loadAttempt (booting .load [true])).cfg.flash.map (fun f => (f.cmd, f.addr)) = some (0x6B, 0x80000) := by
  decide +kernel

theorem wit_BootSteps :
    live.cfg.boot = .reset ∧ (∀ n, n < 29 → (0x1FFFFFFF : BitVec 29).getLsbD n = true) ∧
    (go (.analogStartup 0x1FFFFFFE [] 0) live).bist.sig ≠ passSignature 1 ∧
    ((booting .table []).cfg.boot = .table ∧ (booting .table []).cfg.bootsel ≠ 3 ∧ tableValid tableBytes = true ∧
      tableValid [] = false ∧ (tableOf tableBytes).pmbus = true ∧ (0x14 : Byte).extractLsb' 5 3 = 0 ∧
      (booting .table []).pwr.pmbusOk = false ∧ flashBytes 1 tableBytes = tableBytes) ∧
    (live.cfg.boot ≠ .load ∧ live.cfg.bootsel ≠ 3 ∧
      ({ live with cfg := { live.cfg with boot := .vcore, bootsel := 3 } } : State).cfg.bootsel = 3) ∧
    ((booting .vcore []).cfg.boot = .vcore ∧ (booting .vcore []).pwr.target = 850 ∧
      (booting .vcore []).cfg.table.isSome = true ∧ (booting .vcore []).cfg.goldenNext = false) ∧
    ((booting .load [true]).cfg.load = none ∧ (booting .load [true]).cfg.tries = true :: []) ∧
    ((booting .stopped []).mayReload = true ∧ (booting .stopped []).cfg.load = none ∧ live.mayReload = false) := by
  decide +kernel

/-- A whole record of operation `op` with operand `v` and the payload `body`, and its CRC. -/
def record (op v : Nat) (body : List Byte) : List Byte :=
  let b := leBytes 1 op ++ leBytes 1 0 ++ leBytes 2 (body.length + 4) ++ leBytes 4 v ++ body
  b ++ leBytes 4 (crc32c b).toNat

/-- PACKED: the CRC is that of the bytes unpacked. -/
def packedRecord (v : Nat) (codes data : List Byte) : List Byte :=
  let h := leBytes 1 3 ++ leBytes 1 0 ++ leBytes 2 (codes.length + 4) ++ leBytes 4 v
  h ++ codes ++ leBytes 4 (crc32c (h ++ data)).toNat

def headBytes : List Byte :=
  record 1 0x10000 (leBytes 4 0x494B4741 ++ leBytes 2 1 ++ [0, 0] ++ leBytes 16 (2 ^ 128 - 1) ++ leBytes 4 2 ++
    leBytes 4 0x4E510128 ++ leBytes 4 0)

/-- A full load from two flashes; `f` sets where it stands. -/
def fullLoad (f : ImageLoad → ImageLoad) : ImageLoad :=
  f { ImageLoad.begin .flash false false 0 0 with cleared := true, head := true, length := 0x10000, frames := 2 }
def image (f : ImageLoad → ImageLoad) : State :=
  { live with cfg := { live.cfg with boot := .load, state := .loadingFull, bootsel := 1, load := some (fullLoad f) } }

/-- What LoaderRecords asks of a record. -/
def readable (f : ImageLoad → ImageLoad) (b : List Byte) : Bool :=
  (image f).loading == some (fullLoad f) && flashBytes (image f).cfg.bootsel.toNat b == b && decide (8 ≤ b.length) && b.length == 8 + recLen b &&
    ((fullLoad f).headerErr b).isNone && (readErr b).isNone && (fullLoad f).retry.isNone && (fullLoad f).source == .flash

def slot5 (l : ImageLoad) : ImageLoad := { l with dict := [(5, 0)] }
def bytes (n : Nat) : List Byte := leBytes n 0

def frameRec : List Byte := record 2 (frameAddr 0 0 3) (bytes 256)
def packedRec : List Byte := packedRecord (frameAddr 0 0 4) [0xFF, 0xFF, 0, 0] (bytes 256)
def dictRec : List Byte := record 4 255 (bytes 256)
def stampRec : List Byte := record 5 (frameAddr 0 0 3) (leBytes 2 5 ++ leBytes 2 2 ++ leBytes 4 1)
def zeroRec : List Byte := record 6 (frameAddr 0 0 1022) (leBytes 2 2 ++ leBytes 2 0 ++ leBytes 4 1)
def regionsRec : List Byte := record 7 0 (bytes 240)
def seqRec : List Byte := record 8 7 ([1, 3, 4, 5, 2, 6, 0].flatMap (leBytes 4))
def sigRec : List Byte := record 9 1 (leBytes 8 0x11)
def quinceRec : List Byte := record 10 0x3BFFC (leBytes 4 0x12345678)
def authRec : List Byte := record 11 0 (bytes 96)

theorem test_records :
    (let t := go (.head headBytes) (image (fun l => { l with head := false }))
     (t.cfg.load.map (fun l => (l.head, l.length, l.frames, l.offset))) = some (true, 0x10000, 2, 48)) ∧
    (go (.zero zeroRec) (image id)).cfg.framesWritten = 2 ∧
    (go (.stamp stampRec) (image slot5)).cfg.framesWritten = 2 ∧
    (go (.quince quinceRec) (image id)).wordAt (qsramWord + 0xEFFF) = 0x12345678#32 ∧
    (go (.seq seqRec) (image id)).cfg.steps = [1, 3, 4, 5, 2, 6, 0] ∧
    (go (.sigref sigRec) (image id)).cfg.sigrefs = [{ test := 0x11, target := 0, sig := 0 }] := by decide +kernel

set_option maxRecDepth 20000 in
theorem wit_LoaderRecords :
    (readable (fun l => { l with head := false }) headBytes = true ∧ headErr false headBytes = none) ∧
    ((readable id frameRec && readable id packedRec && readable id dictRec && readable id zeroRec &&
      readable id regionsRec && readable id seqRec && readable id sigRec && readable id quinceRec) = true) ∧
    (readable slot5 stampRec = true ∧ readable (fun l => { l with authNext := true }) authRec = true) ∧
    ((image id).frameErr (fullLoad id) (frameOfBytes (recBody frameRec)) (recOperand frameRec) = none ∧
      faKind (recOperand frameRec) = 0) ∧
    ((unpack (recBody packedRec)).isSome = true ∧
      (image id).frameErr (fullLoad id) (frameOfBytes (bytes 256)) (recOperand packedRec) = none) ∧
    (∀ a ∈ stampAddrs (recOperand stampRec) 2 1, (image slot5).frameErr (fullLoad slot5) 0 a = none ∧ faKind a = 0) ∧
    (∀ a ∈ stampAddrs (recOperand zeroRec) 2 1, (image id).frameErr (fullLoad id) 0 a = none ∧ faKind a = 0) ∧
    masksClash regionsRec = false ∧ seqErr seqRec (fun r => ((image id).region r).mask != 0) = none ∧
    recOperand quinceRec + (recBody quinceRec).length ≤ 0x3C000 := by decide +kernel

/-- The END record for a load with CRC `c` so far. -/
def endRec (c : Word) : List Byte := leBytes 4 0x0F ++ leBytes 4 (crcRun c.toNat (leBytes 4 0x0F) ^^^ 0xFFFFFFFF)
def atEnd (l : ImageLoad) : ImageLoad := { l with offset := 0xFFF8, written := 2 }
def partEnd (l : ImageLoad) : ImageLoad := { atEnd l with partialImage := true, region := 15, avail := 0x10000 }
def stream (f : ImageLoad → ImageLoad) : State :=
  let s := streaming true
  { s with cfg := { s.cfg with bootsel := 1, load := some (fullLoad (fun l => partEnd (f l))) } }

theorem test_load_ends :
    (go (.endRecord (endRec 1)) (image atEnd)).cfg.err = 7 ∧
    (go (.endRecord (endRec (fullLoad id).crc)) (image (fun l => { atEnd l with written := 1 }))).cfg.err = 23 ∧
    (go .loadWatchdogExpiry (image id)).cfg.err = 19 ∧
    (go (.recordRetry (sigRec.map (· + 1))) (image (fun l => { l with retry := some 0 }))).cfg.err ≠ 0 ∧
    (go (.recordRetry sigRec) (image (fun l => { l with retry := some 0 }))).cfg.retryCount = 1 := by decide +kernel

/-- A SIGREF record whose last byte was read wrong. -/
def badSig : List Byte := sigRec.take 19 ++ [sigRec.getD 19 0 + 1]

/-- The partial image that QSRAM holds from 0x0F00_0000 on, at its offset 16: the word there is poisoned. -/
def fromBank : State :=
  let s := streaming true
  { s with cfg := { s.cfg with load := some (fullLoad (fun l => { partEnd l with
    source := .memory, base := 0x0F000000, offset := 16, avail := 0x1000 })) } }.setEcc (qsramWord + 4) (some .poison)

/-- R115: a double error in an image that memory holds. -/
theorem test_bank_error : ((go (.sigref []) fromBank).cfg.load.map (·.retry)) = some (some 0) := by decide +kernel

theorem wit_LoadEnds :
    (∀ f ∈ [atEnd, (fun l => { atEnd l with written := 1 }), (fun l => { atEnd l with options := 1 })],
      (image f).loading = some (fullLoad f) ∧ (image f).cfg.load = some (fullLoad f) ∧ (fullLoad f).retry = none ∧
      (endRec (fullLoad id).crc).length = 8 ∧ recOp (endRec (fullLoad id).crc) = 0x0F ∧
      recLen (endRec (fullLoad id).crc) = 0 ∧ (fullLoad f).headerErr (endRec (fullLoad id).crc) = none ∧
      crcRun (fullLoad f).crc.toNat ((endRec (fullLoad id).crc).take 4) ^^^ 0xFFFFFFFF =
        recOperand (endRec (fullLoad id).crc)) ∧
    (crcRun (fullLoad atEnd).crc.toNat ((endRec 1).take 4) ^^^ 0xFFFFFFFF ≠ recOperand (endRec 1) ∧
      (fullLoad atEnd).written = (fullLoad atEnd).frames ∧ (image atEnd).startupTests = []) ∧
    ((stream id).loading.isSome = true ∧ (fullLoad partEnd).headerErr (endRec (fullLoad id).crc) = none) ∧
    (let f := fun l : ImageLoad => { l with verdict := true }
     (image f).cfg.load.map (·.verdict) = some true ∧ (image f).cfg.boot = .load ∧
       (stream f).cfg.load.map (·.verdict) = some true ∧ (stream f).cfg.state = .loadingPartial) ∧
    (∀ n ∈ [0, 2], let f := fun l : ImageLoad => { l with retry := some n }
     (image f).loading = some (fullLoad f) ∧ (fullLoad f).headerErr sigRec = none ∧ readErr sigRec = none ∧
       recOp sigRec = 0x09 ∧ (fullLoad f).headerErr badSig = none ∧ (readErr badSig).isSome = true ∧
       max 1 (image f).cfg.retryLimit.toNat = 3) ∧
    (let f := fun l : ImageLoad => { l with source := .jtag }
     let s := { image f with jtag := { (image f).jtag with ir := .cfgLoad } }
     s.loading = some (fullLoad f) ∧ s.jtag.ir = .cfgLoad ∧ jtagUse s.cfg.jtagBuf < 4096) ∧
    (∀ b ∈ [sigRec, badSig], let f := fun l : ImageLoad => { l with source := .jtag }
     let s := { image f with cfg := { (image f).cfg with jtagBuf := b ++ [1, 2] } }
     s.loading = some (fullLoad f) ∧ (fullLoad f).retry = none ∧ s.cfg.jtagBuf = b ++ [1, 2] ∧ 8 ≤ b.length ∧
       b.length = 8 + recLen b ∧ (fullLoad f).headerErr b = none ∧ recOp b = 0x09) ∧
    (let s := fromBank
     let l := ((s.cfg.load).getD (fullLoad id))
     s.loading = some l ∧ l.source = .memory ∧ l.retry = none ∧ l.offset + 8 ≤ l.avail ∧
       (l.base + l.offset) / 4 = qsramWord + 4 ∧ s.eccAt (qsramWord + 5) = none ∧
       s.eccAt (qsramWord + 4) = some .poison) := by
  refine ⟨?_, ?_, ?_, ?_, ?_, ?_, ?_, ?_⟩ <;> decide +kernel

/-- With no seam and every pin as at reset, no binding condition is broken. -/
theorem unbound_ok (s : State) (e : ∀ p, s.pin p = Pin.init p) (g : ∀ i, (s.seam i).cfg = 0) : s.bindingErr = none := by
  have hs : s.firstSeamFault = none := by
    unfold State.firstSeamFault; rw [List.find?_eq_none]; intro i _
    rw [g]; simp [State.seamFault, sgKind, fld]
  have n : ∀ p, s.pinSeam p = none := by
    intro p; unfold State.pinSeam; rw [List.find?_eq_none]; intro i _
    rw [g]; simp [State.seamHasPin, sgKind, fld]
  have d : pbBound 0#16 = false ∧ pbLane 0#16 = 0 ∧ pcMode 0#32 = 0 ∧ pcStd 0#32 = 0 ∧
    pinReserved 0#32 0 = false := by decide
  have hf : ∀ p, s.pinFault p = none := by
    intro p
    have hn : s.pinLanes p = 0 := by simp [State.pinLanes, e, Pin.init, d]
    simp [State.pinFault, State.oddOfPair, hn, e, n, Pin.init, laneMode, d]
  have hp : s.firstPinFault = none := by
    unfold State.firstPinFault; rw [List.findSome?_eq_none_iff]; intro p _
    rw [hf]; rfl
  unfold State.bindingErr; rw [hs, hp]

theorem wit_LoadEnds_binding : (image atEnd).bindingErr = none := unbound_ok _ (fun _ => rfl) (fun _ => rfl)

/-- The TAP holds instruction `i`; the boundary register drives ball 0 high and releases ball 1. -/
def tap (i : TapInstr) : State :=
  let s := pin0 id
  { s with cfg := { s.cfg with boot := .done, state := .done }, jtag := { s.jtag with ir := i, boundary := 6 } }

theorem test_tap :
    (go .idcode (tap .bypass)).jtag.capture = 0x1E51C0A3 ∧ (go (.extest 1 (some 6)) (tap .bypass)).padDrive 0 = some true ∧
    (go .clamp (tap .bypass)).padDrive 1 = none ∧ (go .highz (tap .bypass)).padDrive 0 = none ∧
    (go (.bypass 0x3F) (tap .idcode)).jtag.ir = .bypass ∧ (go .testLogicReset (tap .bypass)).jtag.ir = .idcode ∧
    (let s := tap .clamp
     ((State.leavePin s s 0).pin 0).sw.cycle = 1) ∧ (go .cfgLoad (tap .bypass)).cfg.state = .loadingFull ∧
    (go (.extest 0 none) (tap .bypass)).jtag.capture.getLsbD 1787 = live.pwr.vcEn ∧
    (go (.samplePreload 1 (some 0)) (tap .bypass)).jtag.capture.getLsbD 0 = true := by
  refine ⟨?_, ?_, ?_, ?_, ?_, ?_, ?_, ?_, ?_, ?_⟩ <;> decide +kernel

theorem wit_TapInstructions_pads :
    ((pin0 id).padOff 0 = false ∧ (State.reset.setPinBank 0 { State.reset.pinBank 0 with unpowered := true }).padOff 0 = true ∧
      (pin0 id).oddOfPair 0 = false ∧ ((pin0 (fun x => { x with drive := some true })).pin 0).drive = some true ∧
      ((pin0 id).pin 0).drive = none ∧ ((pin0 id).pin 0).contained = false ∧ (pin0 id).pins.released = true ∧
      (tap .extest).jtag.ir.ownsPads = true ∧ (tap .clamp).padOff 0 = false) ∧
    ({ live with dev := { live.dev with dbgDis := true } } : State).debugLocked = true := by
  constructor
  · decide +kernel
  · simp [State.debugLocked]

theorem wit_TapInstructions :
    ((tap .bypass).cfg.boot ≠ .off ∧ (tap .bypass).jtag.ir.ownsPads = false ∧ (tap .clamp).jtag.ir.ownsPads = true ∧
      (tap .bypass).jtagMayLoad = true ∧ live.jtagMayLoad = false) ∧
    (let s := { live with cfg := { live.cfg with boot := .off } }
     s.cfg.boot = .off) := by decide +kernel

/-- The debug port is selected, and Quince is halted or not. -/
def debugging (h : Bool) : State :=
  let s := atQ 0 0 0
  { s with jtag := { s.jtag with ir := .debug }, quince := { s.quince with dbgHalted := h } }

theorem wit_DebugPort_units :
    ((∀ a ∈ [(0x08000000#32, Target.reg 0x08000000), (0x08100000#32, .tileReg 0 0), (0x02000010#32, .desc 0x10)],
      target 128 (a.1 &&& 0xFFFFFFFC#32) = a.2 ∧ (debugging true).accessCheck 128 (a.1 &&& 0xFFFFFFFC#32) .word .load = none) ∧
      (debugging true).accessCheck 128 0x08000000#32 .word .store = none) ∧
    PortIdle (debugging true) qsramWord ∧ PortIdle (debugging true) 0 ∧
    (let s := (({ debugging true with quince := { (debugging true).quince with ctxs := [.bank2 3] } } : State).modCore 128
       (fun x => { x with pc := 0x0FFFF000#32 }))
     s.quince.dbgHalted = true ∧ (s.core 128).stepping = false ∧ (s.core 128).pc = 0x0FFFF000#32 ∧
       s.quince.ctxs = .bank2 3 :: []) ∧
    ((withLoad 128 0x08000000 3 (debugging false)).core 128).load.isSome = true ∧ live.jtag.ir ≠ .debug := by
  unfold PortIdle
  refine ⟨?_, ?_, ?_, ?_, ?_, ?_⟩ <;> decide +kernel

/-- The debug port is locked by the LOCK fuse too; the fuse is the part's (Config). -/
theorem wit_DebugPort (h : Config.lockFuse = false) :
    ((debugging true).debugLocked = false ∧ (debugging false).debugLocked = false ∧
      { live with dev := { live.dev with dbgDis := true } }.debugLocked = true) ∧
    ((debugging true).jtag.ir = .debug ∧ (debugging true).inReset = false ∧ (debugging true).quince.dbgHalted = true ∧
      ((debugging true).core 128).stepping = false) ∧
    ((debugging false).ready = none ∧ (debugging false).quince.stopped = false ∧ ((debugging false).core 128).wait = none ∧
      ((debugging false).core 128).storeErr = none ∧ ((debugging false).core 128).load = none) ∧
    (target 128 (0x0F000003#32 &&& 0xFFFFFFFC#32) = .mem qsramWord ∧ (debugging true).memServes qsramWord = true ∧
      (debugging true).eccAt qsramWord = none ∧
      ((debugging true).setEcc qsramWord (some .poison)).eccAt qsramWord = some .poison) ∧
    target 128 (0x01200000#32 &&& 0xFFFFFFFC#32) = .none := by
  refine ⟨⟨?_, ?_, ?_⟩, by decide +kernel, by decide +kernel, by decide +kernel, by decide +kernel⟩
  · rw [State.debugLocked, h]; decide +kernel
  · rw [State.debugLocked, h]; decide +kernel
  · simp [State.debugLocked]

theorem test_debug_commands (h : Config.lockFuse = false) :
    (go .debugHalt (debugging false)).quince.dbgHalted = true ∧
    ((go (.debugWriteRegister 0x42#32 9) (debugging true)).regIn 128 2 2) = 9 := by
  have e := (wit_DebugPort h).1
  constructor
  · simp only [go, exec, execDebugHalt, State.debugScan, e.2.1]
    decide +kernel
  · simp only [go, exec, execDebugWriteRegister, State.debugScan, e.1]
    decide +kernel

/-- The start-up sequence, about to begin step `w` as its second, or waiting in phase `p`. -/
def starting (w : Word) (p : SeqPhase) : State :=
  { live with cfg := { live.cfg with
    boot := .sequence, seqPhase := p, seqDone := 2, steps := [1, w], hasQuince := true
    load := some (fullLoad id) } }

theorem test_sequence :
    (go .seqStep (starting 0x00000307#32 .ready)).cfg.seqPhase = .delay 75 ∧
    (go .seqStep (starting 0x0048_0508#32 .ready)).cfg.seqPhase = .waitPin 5 false true ∧
    (go .seqStep (starting 0x00800209#32 .ready)).cfg.seqPhase = .regions [1, 15] ∧
    (let t := go .seqStep (starting 0 .ready)
     t.cfg.boot = .done ∧ t.cfg.doneBall = true ∧ (t.core 128).pc = 0x0F000000#32) ∧
    (go .delayExpiry (starting 0 (.delay 3))).cfg.seqPhase = .ready ∧
    (go .waitPinTimeout (starting 0 (.waitPin 5 false true))).cfg.pinTmo = true ∧
    (go (.waitPinMatch (some true)) (starting 0 (.waitPin 5 true true))).cfg.seqPhase = .waitPin 5 true true ∧
    (go (.waitPinMatch none) ((starting 0 (.waitPin 5 true true)).modPin 5 (fun x =>
      { x with sync2 := true }))).cfg.seqPhase = .ready ∧
    (go .waitLockTimeout (starting 1 .waitLock)).cfg.err = 27 ∧
    (go .seqStepComplete (starting 3 .placing)).cfg.seqPhase = .ready := by decide +kernel

theorem wit_StartupSequence :
    (∀ c, c < 10 → (starting (word c) .ready).cfg.boot = .sequence ∧ (starting (word c) .ready).cfg.seqPhase = .ready ∧
      (((starting (word c) .ready).cfg.steps.getD 1 0).extractLsb' 0 8).toNat = c) ∧
    ((starting 0 .waitLock).allLocked = false ∧
      (let s := { starting 0 .waitLock with clk := { live.clk with rootLock := true } }
       ([0, 1, 2, 3].foldl (fun (s : State) q => s.setPhase q { s.phase q with lock := true }) s).allLocked = true)) ∧
    (((starting 0 (.regions [15])).region 15).state ≠ .held ∧
      (((starting 0 (.regions [15])).setRegion 15 { state := .held, mask := 2, loads := 0 }).region 15).state = .held) ∧
    (let s := starting 0 (.waitPin 575 true false)
     (s.pin 575).sync2 ≠ true ∧ s.cfg.seqPhase = .waitPin 575 true false) ∧
    ((starting 3 .ready).lace.reqs = [] ∧ (starting 3 .ready).regionOf 127 = 0 ∧
      ((starting 3 .ready).tile 127).power = .on ∧ ((starting 3 .ready).tile 127).fenced = false ∧
      (starting 3 .ready).tilePowerBit 127 = false ∧ (starting 3 .ready).pwr.powerQueue.contains 127 = false ∧
      ((starting 3 .ready).setFrame (frameAddr 127 4 3) 1).tilePowerBit 127 = true) ∧
    ((starting 5 .ready).modCore 127 (fun x => { x with state := .running })).core 127 ≠ (live.core 127) ∧
    ((starting 0 .placing).region 0).state ≠ .fenced ∧ (live.cfg.boot ≠ .sequence) ∧
    (starting 2 .ready).pins.released = false ∧ ((starting 2 .ready).pin 0).contained = false ∧
    (let s := starting 0 .waitLock
     s.cfg.load.map (·.partialImage) = some false ∧ s.cfg.load.map (·.source) = some .flash) := by
  refine ⟨?_, ?_, ?_, ?_, ?_, ?_, ?_, ?_, ?_, ?_, ?_⟩ <;> decide +kernel

/-- Two commands wait; the first runs. -/
theorem wit_StepRunsFront :
    { live with pending := [.tileEvtSet 3 0, .rootLock] }.pending = .tileEvtSet 3 0 :: [.rootLock] ∧
    (match step { live with pending := [.tileEvtSet 3 0, .rootLock] } with
      | .next t => decide (t.pending = [.rootLock]) && (t.tile 3).evt == 1
      | _ => false) = true := by decide +kernel

theorem wit_StepKeepsMemory :
    (stored5.mem.wf = true) ∧
    (match step { stored5 with pending := [.storePerform 5] } with
      | .next t => t.mem.wf && t.wordAt 0 == 0xCCDD0000#32
      | _ => false) = true := by decide +kernel

/-- Idle cycles with a timer and a tile timer that count. -/
def idle : State :=
  let s := (dog 0).modTile 7 (fun x => { x with timerCount := 5 })
  (({ s with cfg := { s.cfg with boot := .done, seqPhase := .finished } } : State).setTimer 3
    { s.timer 3 with count := 2 })

theorem wit_IdleCycle :
    idle.pending = [] ∧ idle.inReset = false ∧ hotHeld.inReset = true ∧ idle.cfg.boot = .done ∧
    idle.cfg.seqPhase = .finished ∧ (idle.timer 3).en = true ∧ 1 < (idle.timer 3).count.toNat ∧
    (idle.timer 3).nextCount = none ∧ 1 < (idle.tile 7).timerCount.toNat ∧
    idle.lace.tickCount + 1 < idle.lace.tickDiv.toNat ∧ ((idle.tickTile 7).tile 7).timerCount = 4 ∧
    ((idle.tickTimer 3).timer 3).count = 1 := by
  decide +kernel

/-- EC7 runs from XIN and stands still without it; QWDOG runs on, or not. -/
theorem wit_IdleCycle_clocks :
    (live.ecRuns 7 = true ∧ live.clk.rootLock = false ∧ live.hk.qwdog.en = false ∧ (live.core 128).haltPend = false ∧
      (live.core 128).stepping = false ∧ live.inReset = false) ∧
    (let s := live.setEc 7 { live.ec 7 with en := false }
     s.ecRuns 7 = false ∧ s.inReset = false ∧ ((booting .load []).cfg.boot ≠ .reset)) ∧
    (idle.hk.qwdog.en = true ∧ idle.quince.dbgHalted = false ∧ idle.ecRuns 7 = true ∧ idle.clk.rootLock = false ∧
      ((idle.hk.qwdog.running - idle.hk.qwdog.remaining) * (25000 * 2 ^ 20) + idle.hk.qwdog.frac + 2 ^ 20) /
        (25000 * 2 ^ 20) < idle.hk.qwdog.running) ∧
    (starting 0 (.delay 1)).cfg.seqPhase = .delay 1 ∧ ((idle.setTimer 3 { idle.timer 3 with count := 1 }).timer 3).count = 1 ∧
    (∀ n ∈ [1, 2, 3, 4], ((switching n 8 none).pin 0).sw.cycle = n ∧ ((switching n 8 none).pin 0).sw.next = none) := by
  decide +kernel

end Sys2Proof.Tests
end

/-! The ALU, immediate, SHIFTI and LUI instructions of R129 to R131: the fields and operations of the model as
bit vectors, what an instruction of registers alone does when it issues, waits or traps, and the rows. -/

namespace Sys2Proof.Proofs
open Sys2Proof Sys2Proof.Machine Sys2Proof.Says Sys2Proof.Laws

/-! ### Fields of an instruction word as bit vectors (R127) -/

theorem fld_zero_eq_setWidth (w : Word) (n : Nat) : fld w 0 n = (w.setWidth n).toNat := by
  simp [fld]

theorem fld_four_lt (w : Word) (lo : Nat) : fld w lo 4 < 16 := Nat.mod_lt _ (by decide)

/-- The sign extension of R127 is that of bit vectors. -/
theorem sext_eq_signExtend {n : Nat} (i : BitVec n) (hn : n ≤ 32) : sext n i.toNat = i.signExtend 32 := by
  have hp : 2 ^ n ≤ 2 ^ 32 := Nat.pow_le_pow_right (by decide) hn
  have hi : i.toNat < 2 ^ n := i.isLt
  apply BitVec.eq_of_toNat_eq
  rw [BitVec.toNat_signExtend, BitVec.toNat_setWidth, BitVec.msb_eq_decide, sext]
  by_cases h : i.toNat < 2 ^ (n - 1)
  · simp [h, word]
  · simp only [if_neg h, word, BitVec.toNat_ofNat, decide_eq_true (Nat.le_of_not_lt h), if_true]
    omega

theorem immZ_eq_setWidth (w : Word) : immZ w = (w.setWidth 18 : BitVec 18).setWidth 32 := by
  rw [immZ, fld_zero_eq_setWidth]
  exact BitVec.ofNat_toNat ..

theorem immS_eq_signExtend (w : Word) : immS w = (w.setWidth 18 : BitVec 18).signExtend 32 := by
  rw [immS, fld_zero_eq_setWidth, sext_eq_signExtend _ (by decide)]

theorem shiftAmount_toNat (w : Word) : (shiftAmount w).toNat % 32 = (w.setWidth 5).toNat := by
  have h : (w.setWidth 5).toNat < 2 ^ 5 := BitVec.isLt _
  rw [shiftAmount, fld_zero_eq_setWidth, word, BitVec.toNat_ofNat]
  omega

/-! ### The operations of R130 -/

/-- The high word of the 64-bit number `z`. -/
theorem extractLsb'_high_ofInt (z : Int) :
    (BitVec.ofInt 64 z).extractLsb' 32 32 = BitVec.ofInt 32 (z / 2 ^ 32) := by
  apply BitVec.eq_of_toNat_eq
  simp only [BitVec.extractLsb'_toNat, BitVec.toNat_ofInt, Nat.shiftRight_eq_div_pow]
  omega

theorem aluMul_eq_mul (a b : Word) : aluMul a b = a * b := by
  apply BitVec.eq_of_toNat_eq
  rw [aluMul, word, BitVec.toNat_ofNat, BitVec.toNat_mul]

theorem aluMulhu_eq_extractLsb' (a b : Word) :
    aluMulhu a b = BitVec.extractLsb' 32 32 (a.setWidth 64 * b.setWidth 64) := by
  have e (x : Word) : x.setWidth 64 = BitVec.ofInt 64 x.toNat := by
    rw [BitVec.ofInt_natCast, BitVec.ofNat_toNat]
  rw [e, e, ← BitVec.ofInt_mul, extractLsb'_high_ofInt, aluMulhu, word, ← BitVec.ofInt_natCast]
  congr 1

theorem aluMulhs_eq_extractLsb' (a b : Word) :
    aluMulhs a b = BitVec.extractLsb' 32 32 (a.signExtend 64 * b.signExtend 64) := by
  rw [BitVec.signExtend, BitVec.signExtend, ← BitVec.ofInt_mul, extractLsb'_high_ofInt, aluMulhs]

theorem aluDivu_eq_udiv (a b : Word) : aluDivu a b = if b = 0 then 0xFFFFFFFF#32 else a / b := by
  unfold aluDivu word
  rw [← BitVec.toNat_udiv, BitVec.ofNat_toNat, BitVec.setWidth_eq]

theorem aluRemu_eq_umod (a b : Word) : aluRemu a b = if b = 0 then a else a % b := by
  unfold aluRemu word
  rw [← BitVec.toNat_umod, BitVec.ofNat_toNat, BitVec.setWidth_eq]

/-- Equal operands give the same result in either order of comparison. -/
theorem aluMin_eq_slt (a b : Word) : aluMin a b = if b.slt a then b else a := by
  simp only [aluMin, ltS, BitVec.slt, decide_eq_true_eq]
  rcases lt_trichotomy a.toInt b.toInt with h | h | h
  · rw [if_pos h, if_neg h.asymm]
  · rw [BitVec.eq_of_toInt_eq h]
  · rw [if_neg h.asymm, if_pos h]

theorem leadingZeros_eq_log2 (n v : Nat) (hv : v < 2 ^ n) :
    leadingZeros n v = if v = 0 then n else n - 1 - v.log2 := by
  induction n with
  | zero => simp [leadingZeros]
  | succ n ih =>
    by_cases h : v < 2 ^ n
    · rw [leadingZeros, Nat.testBit_lt_two_pow h, ih h]
      by_cases h0 : v = 0
      · simp [h0, Nat.add_comm]
      · have := (Nat.log2_lt h0).2 h
        simp only [h0, Bool.false_eq_true, if_false]
        omega
    · have h0 : v ≠ 0 := by have := Nat.two_pow_pos n; omega
      have hl : v.log2 = n := (Nat.log2_eq_iff h0).2 ⟨by omega, hv⟩
      have ht : v.testBit n = true := hl ▸ Nat.testBit_log2 h0
      simp [leadingZeros, ht, h0, hl]

theorem aluClz_eq_log2 (a b : Word) :
    aluClz a b = if a = 0 then 32 else BitVec.ofNat 32 (31 - a.toNat.log2) := by
  rw [aluClz, word, leadingZeros_eq_log2 32 _ a.isLt]
  have h0 : a.toNat = 0 ↔ a = 0 := BitVec.toNat_inj (y := 0)
  rw [if_congr h0 rfl rfl, apply_ite (BitVec.ofNat 32)]
  rfl

theorem popcount_eq_length_filter (n v : Nat) :
    popcount n v = ((List.range n).filter (fun i => v.testBit i)).length := by
  induction n generalizing v with
  | zero => rfl
  | succ n ih =>
    have hs : (fun i => v.testBit i) ∘ Nat.succ = fun i => (v / 2).testBit i := by
      funext i; exact Nat.testBit_succ v i
    rw [popcount, ih, List.range_succ_eq_map, List.filter_cons, List.filter_map, hs, Nat.testBit_zero]
    rcases Nat.mod_two_eq_zero_or_one v with h | h <;> simp [h, Nat.add_comm]

theorem aluPopc_eq_length_filter (a b : Word) :
    aluPopc a b = BitVec.ofNat 32 ((List.range 32).filter (fun i => a.getLsbD i)).length := by
  rw [aluPopc, word, popcount_eq_length_filter]
  rfl

theorem wordOfBytes_eq_append (b0 b1 b2 b3 : Byte) : wordOfBytes b0 b1 b2 b3 = b3 ++ b2 ++ b1 ++ b0 := by
  apply BitVec.eq_of_toNat_eq
  have l0 := b0.isLt
  have l1 := b1.isLt
  have l2 := b2.isLt
  rw [BitVec.toNat_append, BitVec.toNat_append, BitVec.toNat_append,
    ← Nat.shiftLeft_add_eq_or_of_lt l0, ← Nat.shiftLeft_add_eq_or_of_lt l1,
    ← Nat.shiftLeft_add_eq_or_of_lt l2, wordOfBytes, word, BitVec.toNat_ofNat]
  simp only [Nat.shiftLeft_eq]
  omega

theorem aluBswap_eq_append (a b : Word) : aluBswap a b =
    a.extractLsb' 0 8 ++ a.extractLsb' 8 8 ++ a.extractLsb' 16 8 ++ a.extractLsb' 24 8 := by
  rw [aluBswap, wordOfBytes_eq_append]
  rfl

/-! ### The commands of the rows of R129 to R131 -/

/-- The rows of R130 with the model's own operations. -/
theorem aluRows_eq : aluRows =
    [(Instr.add, aluAdd), (Instr.sub, aluSub), (Instr.andR, aluAnd), (Instr.orR, aluOr), (Instr.xorR, aluXor),
     (Instr.shl, aluShl), (Instr.shr, aluShr), (Instr.sra, aluSra), (Instr.slt, aluSlt), (Instr.sltu, aluSltu),
     (Instr.mul, aluMul), (Instr.mulhu, aluMulhu), (Instr.mulhs, aluMulhs), (Instr.divu, aluDivu),
     (Instr.remu, aluRemu), (Instr.min, aluMin), (Instr.max, aluMax), (Instr.clz, aluClz), (Instr.popc, aluPopc),
     (Instr.bswap, aluBswap)] := by
  rw [funext₂ aluMul_eq_mul, funext₂ aluMulhu_eq_extractLsb', funext₂ aluMulhs_eq_extractLsb',
    funext₂ aluDivu_eq_udiv, funext₂ aluRemu_eq_umod, funext₂ aluMin_eq_slt, funext₂ aluClz_eq_log2,
    funext₂ aluPopc_eq_length_filter, funext₂ aluBswap_eq_append]
  rfl

/-- The command of row `n` of R130 is the ALU instruction of fn `n`. -/
theorem exec_aluRow {n : Nat} {p : AluRow} (h : aluRows[n]? = some p) (c : CoreId) (f : Option Word) (s : State) :
    exec (p.1 c f) s = .next (runInstr c f (isAlu n) (aluBody p.2) s) := by
  rw [aluRows_eq] at h
  have hn : n < 20 := (List.getElem?_eq_some_iff.1 h).1
  interval_cases n <;> (cases h; rfl)

/-! ### Instructions that issue, wait or trap (R128, R134, R135) -/

section Issue

variable {c : CoreId} {f : Option Word} {s s1 t : State} {w : Word} {l : Load}

theorem runs_core (h : s.runs c = true) :
    (s.core c).wait = none ∧ (s.core c).storeErr = none ∧ (c.val ≠ 128 → (s.core c).state = .running) := by
  simp only [State.runs, Bool.and_eq_true, Option.isNone_iff_eq_none] at h
  obtain ⟨⟨hw, he⟩, hr⟩ := h
  exact ⟨hw, he, fun hc => by simpa [hc] using hr⟩

theorem fetch_core {c : Nat} {r : Fetched} (h : s.fetch c f = (r, s1)) (n : Nat) :
    s1.core n = s.core n := by
  unfold State.core
  rw [(State.fetch_keeps h).1]

theorem fetch_reg {c : Nat} {r : Fetched} (h : s.fetch c f = (r, s1)) (k n : Nat) :
    s1.reg k n = s.reg k n := by
  unfold State.reg State.regIn State.bankOf
  rw [fetch_core h, (State.fetch_keeps h).2.1]

/-- A word that is not defined traps with ILLEGAL, whatever command finds it (R128). -/
theorem runInstr_undefined (hi : s.canIssue c = true) (hf : s.fetch c f = (.word w, s1))
    (hw : wordDefined w = false) (mine : Word → Bool) (body : Nat → Word → State → State) :
    Trapped c .illegal (s.core c).pc w s1 (runInstr c f mine body s) := by
  obtain ⟨-, -, he, -⟩ := canIssue_core hi
  have e : runInstr c f mine body s = s1.trap c .illegal (s.core c).pc w := by
    simp only [runInstr, if_pos hi, hf, hw, Bool.not_false, if_true]
  rw [e]
  exact trap_trapped c .illegal _ w s1 (.inl rfl) (by rw [fetch_core hf]; exact he)

/-- An instruction that reads the destination of the outstanding load waits for it (R135). -/
theorem runInstr_reads_load (hl : (s.core c).load = some l) (hf : s.fetch c f = (.word w, s1))
    (h0 : l.rd ≠ 0) (hr : l.rd ∈ readsOf w) (mine : Word → Bool)
    (body : Nat → Word → State → State) : runInstr c f mine body s = s := by
  have hi : s.canIssue c = false := by simp [State.canIssue, hl]
  have ho : s.mayOverlap c l w = false := by simp [State.mayOverlap, h0, hr]
  simp [runInstr, hi, hl, hf, ho]

/-- An instruction that R135 lets issue behind the outstanding load runs its body, and takes the load's register
over when it writes it. -/
theorem runInstr_behind (h : Behind c f s w s1 l (readsOf w)) (hp : plainWord w = true) (hj : opc w ≠ 0x17)
    (mine : Word → Bool) (body : Nat → Word → State → State) (hm : mine w = true) :
    runInstr c f mine body s = (body c w s1).supersede c w := by
  obtain ⟨hl, hr, hf, hd, hg, hs, hh, hn⟩ := h
  have hi : s.canIssue c = false := by simp [State.canIssue, hl]
  have ho : s.mayOverlap c l w = true := by simp [State.mayOverlap, hp, hg, hs, hh, hj, hn]
  simp [runInstr, hi, hr, hl, hf, hd, hm, ho]

/-- With no step and no halt on its way, an instruction that is done has changed pc, registers and INSTRET. -/
theorem went_no_stop (c : CoreId) (p : Word) (regs : SMap Word) (now : Nat) (x : Core)
    (hs : x.stepping = false) (hh : x.haltPend = false) :
    went c p regs now x = { x with pc := p, regs := regs, instret := (x.instret + 1) % 2 ^ 64 } := by
  simp [went, hs, hh]

theorem wentQuince_no_stop (c : CoreId) (x : Core) (q : Quince) (hs : x.stepping = false) (hh : x.haltPend = false) :
    wentQuince c x q = q := by
  simp [wentQuince, hs, hh]

/-- An instruction done while load `l` is outstanding is done behind it, once the load of a register that it wrote
is marked as no longer wanted. -/
theorem done_supersede {p v : Word} (h : Done c (s.core c) p (destOf w) v s t)
    (hl : (s.core c).load = some l) (hs : (s.core c).stepping = false)
    (hh : (s.core c).haltPend = false) : DoneBehind c l p (destOf w) v s (t.supersede c w) := by
  obtain ⟨ht, hother, hcore, hreg⟩ := h
  rw [wentQuince_no_stop _ _ _ hs hh] at ht
  rw [went_no_stop _ _ _ _ _ hs hh] at hcore
  have htl : (t.core c).load = some l := by rw [hcore]; exact hl
  refine ⟨?_, fun k hk => ?_, ?_, fun b m hm => ?_⟩
  · rw [ht]; rfl
  · rw [State.supersede, State.modCore_eq, State.setCore_core, if_neg hk, hother k hk]
  · rw [State.supersede, State.modCore_eq, State.setCore_core, if_pos rfl, htl, hcore]
    rfl
  · rw [← hreg b m hm]
    unfold State.regIn
    rw [State.supersede, State.modCore_eq, State.setCore_core, if_pos rfl]

/-! ### Commands that write one register from registers `ra` and `rb` -/

/-- The command `mk` runs the instruction `w`, whose whole effect is `rd ← v ra rb`. -/
def WritesRd (w : Word) (mk : CoreId → Option Word → Instr) (v : Word → Word → Word) : Prop :=
  ∃ (mine : Word → Bool) (body : Nat → Word → State → State), mine w = true ∧
    (∀ c f s, exec (mk c f) s = .next (runInstr c f mine body s)) ∧
    ∀ c s, body c w s = (s.setReg c (rdF w) (v (s.reg c (raF w)) (s.reg c (rbF w)))).retire c (s.pc4 c)

variable {mk : CoreId → Option Word → Instr} {v : Word → Word → Word}

theorem WritesRd.done (h : WritesRd w mk v) (hi : Issues c f s w s1) :
    ∃ t, exec (mk c f) s = .next t ∧
      Done c (s.core c) ((s.core c).pc + 4) (rdF w) (v (s.reg c (raF w)) (s.reg c (rbF w))) s1 t := by
  obtain ⟨mine, body, hm, he, hb⟩ := h
  refine ⟨_, he c f s, ?_⟩
  rw [runInstr_issues hi _ _ hm, hb, issue_reg hi, issue_reg hi, State.pc4, issue_core hi]
  exact issue_done hi _ _ (fld_four_lt w 22) _

/-- The opcodes up to LUI touch registers and the pc alone (R135). -/
theorem plainWord_of_opc (h : opc w ≤ 7) : plainWord w = true := by
  simp [plainWord, h]

theorem destOf_of_opc (h : opc w ≤ 7) : destOf w = rdF w := by
  unfold destOf
  rw [if_neg (by omega), if_neg (by omega)]

theorem WritesRd.doneBehind (h : WritesRd w mk v) (ho : opc w ≤ 7) (hi : Behind c f s w s1 l (readsOf w)) :
    ∃ t, exec (mk c f) s = .next t ∧
      DoneBehind c l ((s.core c).pc + 4) (rdF w) (v (s.reg c (raF w)) (s.reg c (rbF w))) s1 t := by
  obtain ⟨mine, body, hm, he, hb⟩ := h
  refine ⟨_, he c f s, ?_⟩
  rw [runInstr_behind hi (plainWord_of_opc ho) (by omega) _ _ hm, hb]
  obtain ⟨hl, hr, hf, -, -, hs, hh, -⟩ := hi
  obtain ⟨hw, hse, hst⟩ := runs_core hr
  rw [fetch_reg hf, fetch_reg hf, State.pc4, fetch_core hf, ← destOf_of_opc ho]
  rw [← fetch_core hf] at hl hs hh hw hse hst
  refine done_supersede (retire_done c _ _ ?_ _ s1 hse hw hst) hl hs hh
  rw [destOf_of_opc ho]
  exact fld_four_lt w 22

end Issue

/-! ### ALU instructions (R130) -/

theorem aluRow_writesRd {w : Word} (h0 : opc w = 0) {p : AluRow} (h : aluRows[fnF w]? = some p) :
    WritesRd w p.1 p.2 :=
  ⟨isAlu (fnF w), aluBody p.2, by simp [isAlu, h0], exec_aluRow h, fun _ _ => rfl⟩

theorem not_wordDefined_of_fn {w : Word} (h0 : opc w = 0) (h : 20 ≤ fnF w) : wordDefined w = false := by
  simp [wordDefined, h0, h]

theorem readsOf_alu {w : Word} (h0 : opc w = 0) : readsOf w = [raF w, rbF w] := by
  simp [readsOf, h0]

/-- Settles O2: the rows of R130 are `runInstr` of the model's ALU bodies, whatever the fn. -/
theorem aluResults : Obligations.AluResults := by
  unfold Obligations.AluResults
  intro c f s s1 w h0
  refine ⟨fun hi p hp => (aluRow_writesRd h0 hp).done hi, fun hi hf hfn p hp => ?_,
    fun l hb p hp => (aluRow_writesRd h0 hp).doneBehind (by omega) (by rwa [readsOf_alu h0]),
    fun l hl hf hrd hr p hp => ?_⟩
  · obtain ⟨n, hn⟩ := List.mem_iff_getElem?.1 hp
    exact ⟨_, exec_aluRow hn c f s, runInstr_undefined hi hf (not_wordDefined_of_fn h0 hfn) _ _⟩
  · obtain ⟨n, hn⟩ := List.mem_iff_getElem?.1 hp
    rw [exec_aluRow hn, runInstr_reads_load hl hf hrd (by simpa [readsOf_alu h0] using hr)]

/-! ### Immediate instructions, SHIFTI and LUI (R129, R131) -/

theorem immBody_writesRd {w : Word} {mk : CoreId → Option Word → Instr} {mine : Word → Bool}
    {op : Word → Word → Word} {imm : Word → Word} {g : Word → Word}
    (he : ∀ c f s, exec (mk c f) s = .next (runInstr c f mine (immBody op imm) s)) (hm : mine w = true)
    (hg : ∀ a, op a (imm w) = g a) :
    WritesRd w mk (fun a _ => g a) :=
  ⟨mine, immBody op imm, hm, he, fun c s => by rw [immBody, hg]⟩

theorem isOp_of_opc {w : Word} {o : Nat} (h : opc w = o) : isOp o w = true := by
  simp [isOp, h]

theorem isShifti_of_kind {w : Word} {k : Nat} (h : opc w = 0x06) (hk : (w.extractLsb' 5 2).toNat = k) :
    isShifti k w = true := by
  have hf : fld w 5 2 = k := hk
  simp [isShifti, h, hf]

/-- The command of a row of R129 or R131 is the immediate instruction of the row. -/
theorem immRow_writesRd {w : Word} {p : (CoreId → Option Word → Instr) × (Word → Word)} (h : immRow w = some p) :
    WritesRd w p.1 (fun a _ => p.2 a) := by
  unfold immRow at h
  dsimp only at h
  split at h
  case h_1 ho =>
    cases h
    exact immBody_writesRd (fun _ _ _ => rfl) (isOp_of_opc ho) fun a => congrArg (aluAdd a) (immS_eq_signExtend w)
  case h_2 ho =>
    cases h
    exact immBody_writesRd (fun _ _ _ => rfl) (isOp_of_opc ho) fun a => congrArg (aluAnd a) (immZ_eq_setWidth w)
  case h_3 ho =>
    cases h
    exact immBody_writesRd (fun _ _ _ => rfl) (isOp_of_opc ho) fun a => congrArg (aluOr a) (immZ_eq_setWidth w)
  case h_4 ho =>
    cases h
    exact immBody_writesRd (fun _ _ _ => rfl) (isOp_of_opc ho) fun a => congrArg (aluXor a) (immZ_eq_setWidth w)
  case h_5 ho =>
    cases h
    exact immBody_writesRd (fun _ _ _ => rfl) (isOp_of_opc ho) fun a => congrArg (aluSlt a) (immS_eq_signExtend w)
  case h_6 ho hk =>
    cases h
    exact immBody_writesRd (fun _ _ _ => rfl) (isShifti_of_kind ho hk) fun a => by rw [aluShl, shiftAmount_toNat]
  case h_7 ho hk =>
    cases h
    exact immBody_writesRd (fun _ _ _ => rfl) (isShifti_of_kind ho hk) fun a => by rw [aluShr, shiftAmount_toNat]
  case h_8 ho hk =>
    cases h
    exact immBody_writesRd (fun _ _ _ => rfl) (isShifti_of_kind ho hk) fun a => by rw [aluSra, shiftAmount_toNat]
  case h_9 ho =>
    cases h
    exact ⟨isOp 0x07, luiBody, isOp_of_opc ho, fun _ _ _ => rfl, fun c s => by rw [luiBody, immZ_eq_setWidth]⟩
  case h_10 => cases h

theorem immRow_opc {w : Word} {p : (CoreId → Option Word → Instr) × (Word → Word)} (h : immRow w = some p) :
    0 < opc w ∧ opc w ≤ 7 := by
  unfold immRow at h
  dsimp only at h
  split at h
  case h_10 => cases h
  all_goals omega

theorem readsOf_imm {w : Word} (h0 : 0 < opc w) (h7 : opc w ≤ 7) :
    readsOf w = if opc w = 0x07 then [] else [raF w] := by
  unfold readsOf
  dsimp only
  by_cases h : opc w = 0x07
  · simp [h]
  · rw [if_neg (by omega), if_neg (by omega), if_neg (by omega), if_neg h]

theorem not_wordDefined_of_kind {w : Word} (ho : opc w = 0x06) (hk : w.extractLsb' 5 2 = 3) :
    wordDefined w = false := by
  have hf : fld w 5 2 = 3 := congrArg BitVec.toNat hk
  simp [wordDefined, ho, hf]

/-- Settles O3: each row of R129 and R131 writes one register from `ra` alone. -/
theorem immediateResults : Obligations.ImmediateResults := by
  unfold Obligations.ImmediateResults
  intro c f s s1 w
  refine ⟨fun hi p hp => (immRow_writesRd hp).done hi, fun hi hf ho hk mk hmk => ?_, fun l hb p hp => ?_⟩
  · have hu := runInstr_undefined hi hf (not_wordDefined_of_kind ho hk)
    simp only [List.mem_cons, List.not_mem_nil, or_false] at hmk
    rcases hmk with rfl | rfl | rfl
    · exact ⟨_, rfl, hu _ _⟩
    · exact ⟨_, rfl, hu _ _⟩
    · exact ⟨_, rfl, hu _ _⟩
  · obtain ⟨h0, h7⟩ := immRow_opc hp
    exact (immRow_writesRd hp).doneBehind h7 (by rwa [readsOf_imm h0 h7])

end Sys2Proof.Proofs
